-- ==== Sys2Proof/Word.lean ====
section
/-!
DEFINITION. The plainest types of the part: bytes, site times, directions, offsets, the two axes.
-/

namespace Sys2Proof

/-- One byte of a frame on a link (spec 11, section 11.7). -/
abbrev Byte := BitVec 8

/-- A site time: a value of the 32-bit Site Clock (spec 02, R42). -/
abbrev SiteTime := BitVec 32

/-- A direction (Hz, V) in au (spec 00, R1). V is the zenith angle and is kept unwrapped. -/
structure Dir where
  hz : Int
  v : Int
  deriving DecidableEq, Repr

/-- A signed pair (dHz, dV): an offset, a residual or a rate (spec 00, R1). -/
structure Offset where
  hz : Int
  v : Int
  deriving DecidableEq, Repr

/-- The two axes of the telescope (spec 09, FIGURE 83). -/
inductive Axis where
  | hz
  | v
  deriving DecidableEq, Repr

end Sys2Proof
end

