-- ==== Sys2Proof/Config.lean ====
section
/-!
DEFINITION. What is fixed for the part: its capacities, limits and fixed times, the configuration
parameters with their reset values, and the free value.
-/

namespace Sys2Proof.Config

/-- A full turn in au (R1). -/
abbrev turn : Int := 16777216

/-- A half turn in au (R1). -/
abbrev halfTurn : Int := 8388608

/-- The smallest expected or commanded V (R1). -/
abbrev vLow : Int := 2097152

/-- The largest expected or commanded V, also the park position (R1, R169). -/
abbrev vHigh : Int := 6291456

/-- Slots of the Target Table (R3). -/
abbrev tableCapacity : Nat := 48

/-- Zone records of the Zone Table (R148). -/
abbrev zoneCapacity : Nat := 12

/-- Pattern records of the Pattern Store (R95). -/
abbrev patternCount : Nat := 8

/-- The wake limit in ms, fixed (R160). -/
abbrev wakeLimit : Nat := 2000

/-- The lead time of a steering command in ms, fixed (R136). -/
abbrev leadTime : Int := 40

/-- The limit of a rate on each axis in au/s, fixed (R135). -/
abbrev rateLimit : Int := 200000

/-- Directions a rejected list holds at most (R83). -/
abbrev rejectedMax : Nat := 4

/-- FREE VALUE (log 3): which of several expiries due at the same millisecond is taken first.
R37 and R155 say that either may be first. Nothing in Lean can evaluate it. -/
opaque freeChoice : Nat → Nat

/-- The 17 configuration parameters (R188, FIGURE 101), in the order of their numbers. -/
structure Params where
  confirmFrames : Nat
  lossFrames : Nat
  lookFrames : Nat
  moveLimit : Nat
  coastLimit : Nat
  searchLimit : Nat
  deferLimit : Nat
  lostRetry : Nat
  dozeDelay : Nat
  minStrength : Nat
  maxSpotSize : Nat
  ambiguityMargin : Nat
  rejectRadius : Nat
  tiltLimit : Nat
  tiltFilter : Nat
  refMin : Nat
  orientSpread : Nat
  deriving DecidableEq, Repr

/-- The reset values of FIGURE 101. -/
def Params.reset : Params where
  confirmFrames := 3
  lossFrames := 5
  lookFrames := 25
  moveLimit := 8000
  coastLimit := 2000
  searchLimit := 60
  deferLimit := 600
  lostRetry := 300
  dozeDelay := 10
  minStrength := 64
  maxSpotSize := 40
  ambiguityMargin := 1200
  rejectRadius := 600
  tiltLimit := 3000
  tiltFilter := 4
  refMin := 2
  orientSpread := 65

end Sys2Proof.Config
end

