-- ==== Sys2Proof/Syntax.lean ====
section
/-!
DEFINITION. The commands of the part: one constructor of Instr per row of spec/opcode_table.json.
Operands are plain numbers as the layouts of spec 11, section 11.7 give them, so a command can carry a
value that its owner refuses.
-/

namespace Sys2Proof

/-- The fields a target body gives, each present when its bit of the field word is set (FIGURE 109). -/
structure TargetFields where
  level : Option Nat := none
  expected : Option Dir := none
  tolerance : Option Nat := none
  gate : Option Nat := none
  interval : Option Nat := none
  quantum : Option Nat := none
  dwell : Option Nat := none
  pattern : Option Nat := none
  band : Option (Nat × Nat) := none
  notify : Option Nat := none
  deriving DecidableEq, Repr

/-- The fields of ZONE SET (FIGURE 108), kind as its byte. -/
structure ZoneFields where
  id : Nat
  kind : Nat
  hzFrom : Int
  hzTo : Int
  vLow : Int
  vHigh : Int
  lifetime : Nat
  deriving DecidableEq, Repr

/-- The ten fields of PATTERN LOAD (FIGURE 49, FIGURE 108), mode and end as their bytes. -/
structure PatternFields where
  mode : Nat
  innerCount : Nat
  middleCount : Nat
  outerCount : Nat
  innerStep : Offset
  middleStep : Offset
  outerStep : Offset
  start : Offset
  framesPerProbe : Nat
  ending : Nat
  deriving DecidableEq, Repr

/-- The commands, in the order of the table. The first byte operand of a request is its tag (R186). -/
inductive Instr where
  /-- Release of RESET# (R31, R46, R69, R94, R129, R172, R183). -/
  | powerOn
  /-- A WRITE transaction (R186): the whole bytes shifted in after the first byte, the number of bits of a
  byte cut off by the rise of CS#, and whether processing ended between the fall and the rise of CS#. -/
  | write (frame : List Byte) (cut : Nat) (published : Bool)
  /-- A READ transaction (R185): the SCK clocks after the first byte. -/
  | read (clocks : Nat)
  /-- Processing of the request in hand ends (R185). -/
  | replyPublish
  | identify (tag : Byte) (item : Nat)
  | configure (tag : Byte) (pairs : List (Nat × Nat))
  | readConfiguration (tag : Byte)
  | status (tag : Byte)
  | clearStation (tag : Byte)
  | targetAdd (tag : Byte) (id cls : Nat) (fields : TargetFields)
  /-- cls is given when the class is named, bandAbsent when the band is named as absent (FIGURE 109). -/
  | targetChange (tag : Byte) (id : Nat) (cls : Option Nat) (bandAbsent : Bool) (fields : TargetFields)
  | targetRead (tag : Byte) (id : Nat)
  | targetRetire (tag : Byte) (id : Nat)
  | targetHold (tag : Byte) (id : Nat)
  | targetResume (tag : Byte) (id : Nat)
  | targetList (tag : Byte)
  /-- flags: one byte in the order of the record flags (R193). -/
  | clearFlags (tag : Byte) (id : Nat) (flags : Byte)
  | changedList (tag : Byte)
  | visitNow (tag : Byte) (id : Nat) (level : Option Nat)
  | zoneSet (tag : Byte) (zone : ZoneFields)
  | zoneRetire (tag : Byte) (id : Nat)
  | zoneRead (tag : Byte) (id : Nat)
  | patternLoad (tag : Byte) (number : Nat) (fields : PatternFields)
  | patternRead (tag : Byte) (number : Nat)
  | point (tag : Byte) (aim : Dir) (level hold : Nat)
  | release (tag : Byte) (id : Option Nat)
  | stationMode (tag : Byte) (mode : Nat)
  | clockRead (tag : Byte)
  | clockSet (tag : Byte) (time : SiteTime)
  | reorient (tag : Byte)
  | orientSet (tag : Byte) (offset : Int)
  | driveReset (tag : Byte)
  | attentionRead (tag : Byte)
  | attentionClear (tag : Byte) (flags : Byte)
  | attentionMask (tag : Byte) (mask : Byte)
  /-- An axis reports READY (R160). -/
  | readyReport (axis : Axis)
  /-- An axis reports AT POSITION with the position reached and a move number (R162). -/
  | atPosition (axis : Axis) (position : Int) (move : Byte)
  | stalled (axis : Axis)
  | fault (axis : Axis) (code : Byte)
  /-- A sensor frame as its bytes (FIGURE 107). -/
  | sensorFrame (bytes : List Byte)
  | tiltSample (cross long : Int)
  | countdownExpiry (id : Nat)
  | deferralTimerExpiry (id : Nat)
  | zoneLifetimeExpiry (id : Nat)
  | dwellTimerExpiry
  | holdTimerExpiry
  | searchLimitExpiry
  | coastTimerExpiry
  | quantumExpiry
  | wakeLimitExpiry
  | moveLimitExpiry
  | dozeDelayExpiry
  deriving DecidableEq, Repr

end Sys2Proof
end

