-- ==== Sys2Proof/WellFormed.lean ====
section
/-!
DEFINITION. Which commands can be spelled on their link: every operand fits the bytes its layout gives it
(spec 11, section 11.7). A command that is well formed may still carry a value its owner refuses.
-/

namespace Sys2Proof

/-- The value fits in n unsigned bytes. -/
def fitsU (n : Nat) (x : Nat) : Bool := x < 256 ^ n

/-- The value fits in 4 bytes of two's complement. -/
def fitsS (x : Int) : Bool := -2147483648 ≤ x ∧ x ≤ 2147483647

/-- An absent field fits; a present one must satisfy the test. -/
def fitsOpt {α : Type} (f : α → Bool) (x : Option α) : Bool := x.all f

def Dir.fits (d : Dir) : Bool := fitsS d.hz && fitsS d.v

def Offset.fits (o : Offset) : Bool := fitsS o.hz && fitsS o.v

/-- Every field given fits its bytes of FIGURE 109. -/
def TargetFields.fits (f : TargetFields) : Bool :=
  fitsOpt (fitsU 1) f.level && fitsOpt Dir.fits f.expected && fitsOpt (fitsU 2) f.tolerance
    && fitsOpt (fitsU 2) f.gate && fitsOpt (fitsU 4) f.interval && fitsOpt (fitsU 2) f.quantum
    && fitsOpt (fitsU 2) f.dwell && fitsOpt (fitsU 1) f.pattern
    && fitsOpt (fun b => fitsU 2 b.1 && fitsU 2 b.2) f.band && fitsOpt (fitsU 1) f.notify

def ZoneFields.fits (z : ZoneFields) : Bool :=
  fitsU 1 z.id && fitsU 1 z.kind && fitsS z.hzFrom && fitsS z.hzTo && fitsS z.vLow && fitsS z.vHigh
    && fitsU 4 z.lifetime

def PatternFields.fits (p : PatternFields) : Bool :=
  fitsU 1 p.mode && fitsU 1 p.innerCount && fitsU 1 p.middleCount && fitsU 1 p.outerCount
    && p.innerStep.fits && p.middleStep.fits && p.outerStep.fits && p.start.fits
    && fitsU 1 p.framesPerProbe && fitsU 1 p.ending

/-- The command can be spelled: requests by the layouts of FIGURE 108 and FIGURE 109, transactions and
reports by R184, FIGURE 83 and the identifier ranges of FIGURE 3. -/
def Instr.wellFormed : Instr → Bool
  | .powerOn => true
  | .write _ cut _ => cut < 8
  | .read _ => true
  | .replyPublish => true
  | .identify _ item => fitsU 1 item
  | .configure _ pairs => pairs.length ≤ 17 && pairs.all fun p => fitsU 1 p.1 && fitsU 4 p.2
  | .readConfiguration _ => true
  | .status _ => true
  | .clearStation _ => true
  | .targetAdd _ id cls f => fitsU 2 id && fitsU 1 cls && f.fits
  | .targetChange _ id cls absent f =>
      fitsU 2 id && fitsOpt (fitsU 1) cls && f.fits && !(absent && f.band.isSome)
  | .targetRead _ id => fitsU 2 id
  | .targetRetire _ id => fitsU 2 id
  | .targetHold _ id => fitsU 2 id
  | .targetResume _ id => fitsU 2 id
  | .targetList _ => true
  | .clearFlags _ id flags => fitsU 2 id && flags.toNat < 64
  | .changedList _ => true
  | .visitNow _ id level => fitsU 2 id && fitsOpt (fitsU 1) level
  | .zoneSet _ z => z.fits
  | .zoneRetire _ id => fitsU 1 id
  | .zoneRead _ id => fitsU 1 id
  | .patternLoad _ n p => fitsU 1 n && p.fits
  | .patternRead _ n => fitsU 1 n
  | .point _ aim level hold => aim.fits && fitsU 1 level && fitsU 4 hold
  | .release _ id => fitsOpt (fitsU 2) id
  | .stationMode _ mode => fitsU 1 mode
  | .clockRead _ => true
  | .clockSet _ _ => true
  | .reorient _ => true
  | .orientSet _ offset => fitsS offset
  | .driveReset _ => true
  | .attentionRead _ => true
  | .attentionClear _ _ => true
  | .attentionMask _ _ => true
  | .readyReport _ => true
  | .atPosition axis position _ =>
      match axis with
      | .hz => 0 ≤ position && position < Config.turn
      | .v => Config.vLow ≤ position && position ≤ Config.vHigh
  | .stalled _ => true
  | .fault _ code => code != 0
  | .sensorFrame _ => true
  | .tiltSample _ _ => true
  | .countdownExpiry id => 1 ≤ id && id ≤ 65534
  | .deferralTimerExpiry id => 1 ≤ id && id ≤ 65534
  | .zoneLifetimeExpiry id => 1 ≤ id && id ≤ 255
  | .dwellTimerExpiry => true
  | .holdTimerExpiry => true
  | .searchLimitExpiry => true
  | .coastTimerExpiry => true
  | .quantumExpiry => true
  | .wakeLimitExpiry => true
  | .moveLimitExpiry => true
  | .dozeDelayExpiry => true

end Sys2Proof
end

