-- ==== Sys2Proof/Decode.lean ====
section
/-!
DEFINITION. Words of the table. No row of spec/opcode_table.json gives bits (the part takes commands on
links and has no instruction words), so no word spells a command. The decoding of request frames and of
sensor frames, which do have a layout, is in Machine/Link.lean and Machine/Spots.lean.
-/

namespace Sys2Proof

/-- The command a word spells by the table's bits: none, because no row gives any. -/
def decodeTableWord (_nbits _w : Nat) : Option Instr := none

end Sys2Proof
end

