-- ==== Sys2Proof/Machine/State.lean ====
section
/-!
DEFINITION. The state of the part as plain data: every piece of state that spec 01 to 11 names, the traces of
what the part has sent on its links, the queue of commands, and the state right after reset.
-/

namespace Sys2Proof.Machine

/-! ## The request port (spec 11) -/

/-- Reply statuses, in the order of FIGURE 98. -/
inductive Status where
  | ok
  | badFrame
  | unknownRequest
  | badField
  | notFound
  | duplicate
  | tableFull
  | zoneFull
  | busyPattern
  | already
  | held
  | noJob
  | wrongMode
  deriving DecidableEq, Repr

/-- A reply: its status, the tag of the request it answers and its body (R186, FIGURE 104). -/
structure Reply where
  status : Status
  tag : Byte
  body : List Byte
  deriving DecidableEq, Repr

/-- The three things the port holds (R185). The request in hand is held as the reply its owner gave (log 23). -/
structure Port where
  inHand : Option Reply
  last : Option Reply
  readMark : Bool
  deriving DecidableEq, Repr

/-! ## Target records (spec 01) -/

/-- Classes of target, in the order of FIGURE 8. -/
inductive TargetClass where
  | static
  | reference
  | moving
  deriving DecidableEq, Repr

/-- The fields that STATIC and REFERENCE records carry and MOVING records do not (R5). -/
structure FixedFields where
  tolerance : Nat
  interval : Nat
  dwell : Nat
  deriving DecidableEq, Repr

/-- The class of a record with the fields of its class and no others (R5). -/
inductive ClassFields where
  | static (f : FixedFields)
  | reference (f : FixedFields)
  | moving (quantum : Nat)
  deriving DecidableEq, Repr

/-- Record states, in the order of FIGURE 8. -/
inductive RecordState where
  | waiting
  | due
  | active
  | suspended
  | lost
  | held
  deriving DecidableEq, Repr

/-- Due reasons, in the order of FIGURE 8. -/
inductive Reason where
  | added
  | schedule
  | retry
  | host
  | reorient
  deriving DecidableEq, Repr

/-- End reasons, in the order of FIGURE 44. -/
inductive EndReason where
  | confirmed
  | displaced
  | ambiguous
  | notFound
  | yielded
  | released
  | expired
  | replaced
  | superseded
  | shadowed
  | retired
  | held
  | disturbed
  | parked
  | driveFault
  | cleared
  deriving DecidableEq, Repr

/-- Notify values, in the order of FIGURE 8. -/
inductive Notify where
  | none
  | acquire
  | loss
  | both
  deriving DecidableEq, Repr

/-- A strength band (FIGURE 8). -/
structure Band where
  lo : Nat
  hi : Nat
  deriving DecidableEq, Repr

/-- A last confirmation (FIGURE 8). -/
structure Confirmation where
  dir : Dir
  time : SiteTime
  strength : Nat
  deriving DecidableEq, Repr

/-- The six record flags, in the order of R193. -/
structure RecordFlags where
  displaced : Bool := false
  ambiguous : Bool := false
  deferred : Bool := false
  overdue : Bool := false
  unoriented : Bool := false
  news : Bool := false
  deriving DecidableEq, Repr

/-- A target record with the slot it occupies (R3, FIGURE 8). -/
structure TargetRecord where
  slot : Nat
  id : Nat
  fields : ClassFields
  state : RecordState
  level : Nat
  expected : Dir
  gate : Nat
  pattern : Nat
  band : Option Band
  notify : Notify
  countdown : Option Nat
  confirmation : Option Confirmation
  residual : Option Offset
  rate : Option Offset
  missCount : Nat
  flags : RecordFlags
  dueReason : Option Reason
  lastEnd : Option EndReason
  deriving DecidableEq, Repr

/-! ## The pointing arbiter (spec 03) -/

/-- What a Due List entry asks for: its kind with its target id, or the direction and hold of a POINT (FIGURE 22). -/
inductive Work where
  | visit (id : Nat)
  | track (id : Nat)
  | point (aim : Dir) (hold : Nat)
  deriving DecidableEq, Repr

/-- A Due List entry (FIGURE 22), with its deferral timer (R58) and the mark that VISIT NOW placed or moved it
with a level given (R15, R65). The timer is absent once it has expired in the episode. -/
structure Entry where
  work : Work
  level : Nat
  reason : Reason
  joined : SiteTime
  levelGiven : Bool
  deferredSince : Option SiteTime
  deferTimer : Option Nat
  deriving DecidableEq, Repr

/-- Station modes, in the order of FIGURE 110. -/
inductive StationMode where
  | active
  | doze
  | parked
  deriving DecidableEq, Repr

/-! ## Jobs (spec 04, 05, 07) -/

inductive JobKind where
  | visit
  | track
  | point
  deriving DecidableEq, Repr

/-- Phases, in the order of FIGURE 37 and FIGURE 110. -/
inductive Phase where
  | wake
  | slew
  | look
  | confirm
  | search
  | dwell
  | track
  | coast
  | hold
  deriving DecidableEq, Repr

/-- Where a CONFIRM was entered from (R79). -/
inductive Origin where
  | look
  | search
  deriving DecidableEq, Repr

/-- Confirm sums, and the run sums of COAST (FIGURE 37, R140). -/
structure ConfirmSums where
  first : Dir
  hz : Int
  v : Int
  strength : Nat
  deriving DecidableEq, Repr

/-- The found outcome of a VISIT job (FIGURE 37, R82). -/
structure Found where
  displaced : Bool
  mean : Dir
  strength : Nat
  time : SiteTime
  suppressed : Bool
  deriving DecidableEq, Repr

inductive PatternMode where
  | line
  | raster
  | stack
  deriving DecidableEq, Repr

inductive PatternEnd where
  | ends
  | repeats
  deriving DecidableEq, Repr

/-- A pattern record (FIGURE 49). -/
structure Pattern where
  mode : PatternMode
  innerCount : Nat
  middleCount : Nat
  outerCount : Nat
  innerStep : Offset
  middleStep : Offset
  outerStep : Offset
  start : Offset
  framesPerProbe : Nat
  ending : PatternEnd
  deriving DecidableEq, Repr

/-- Stages of a search (FIGURE 51). -/
inductive Stage where
  | slewing
  | taking
  | waiting
  deriving DecidableEq, Repr

/-- The search state of a job (FIGURE 51). -/
structure SearchState where
  number : Nat
  pattern : Pattern
  inner : Nat
  middle : Nat
  outer : Nat
  offset : Offset
  centre : Dir
  stage : Stage
  frames : Nat
  passSlewed : Bool
  limitOut : Bool
  deriving DecidableEq, Repr

/-- The time a POINT still has to hold (FIGURE 37). -/
inductive HoldTime where
  | untilRelease
  | ms (left : Nat)
  deriving DecidableEq, Repr

/-- The copies of the record's fields a job takes at its start (R5, FIGURE 37). -/
structure RecordCopies where
  level : Nat
  tolerance : Option Nat
  gate : Nat
  band : Option Band
  dwell : Option Nat
  pattern : Nat
  quantum : Option Nat
  notify : Notify
  deriving DecidableEq, Repr

/-- The copies of the configuration a job takes at its start (R71). -/
structure ConfigCopies where
  confirmFrames : Nat
  lossFrames : Nat
  lookFrames : Nat
  moveLimit : Nat
  coastLimit : Nat
  searchLimit : Nat
  minStrength : Nat
  maxSpotSize : Nat
  ambiguityMargin : Nat
  rejectRadius : Nat
  deriving DecidableEq, Repr

/-- A job context (FIGURE 37, FIGURE 70). The confirm count and sums serve the run of COAST too (R133).
Outside TRACK the empty count is 0 and the shadow mark clear (FIGURE 70, log 21). leftOver is set in a REORIENT job that was
in flight when the state left REORIENTING: it takes no part in a later reorientation (R176, R179, log 34). -/
structure JobContext where
  kind : JobKind
  target : Option Nat
  level : Nat
  reason : Reason
  phase : Phase
  aim : Dir
  lookCount : Nat
  ambiguousCount : Nat
  confirmCount : Nat
  sums : Option ConfirmSums
  origin : Option Origin
  reference : Option Dir
  found : Option Found
  emptyCount : Nat
  search : Option SearchState
  rejected : List Dir
  dwellLeft : Option Nat
  holdLeft : Option HoldTime
  coastLeft : Option Nat
  searchLeft : Option Nat
  quantumLeft : Option Nat
  previous : Option (Dir × SiteTime)
  shadowMark : Bool
  leftOver : Bool
  copies : Option RecordCopies
  config : ConfigCopies
  deriving DecidableEq, Repr

/-- The three suspend slots (FIGURE 24). -/
structure Slots where
  s0 : Option JobContext
  s1 : Option JobContext
  s2 : Option JobContext
  deriving DecidableEq, Repr

/-! ## Zones (spec 08) -/

inductive ZoneKind where
  | shadow
  | glare
  deriving DecidableEq, Repr

/-- A zone record (FIGURE 76). remaining is in ms and absent for a permanent zone. -/
structure Zone where
  id : Nat
  kind : ZoneKind
  hzFrom : Int
  hzTo : Int
  vLow : Int
  vHigh : Int
  lifetime : Nat
  remaining : Option Nat
  deriving DecidableEq, Repr

/-! ## Axis drives (spec 09) -/

/-- Drive states, in the order of FIGURE 84. -/
inductive DriveState where
  | rest
  | waking
  | ready
  | slewing
  | steering
  | fault
  deriving DecidableEq, Repr

/-- Fault codes: NONE and the codes of FIGURE 88 in their order. -/
inductive FaultCode where
  | none
  | wakeTimeout
  | moveTimeout
  | stallHz
  | stallV
  | axisHz
  | axisV
  deriving DecidableEq, Repr

/-- The purpose of a slew (spec 09, section 9.2). -/
inductive Purpose where
  | none
  | job
  | park
  deriving DecidableEq, Repr

/-- What the Axis Drive Controller holds (R158, R159). Timers are remaining ms. -/
structure Drive where
  state : DriveState
  moveHz : Byte
  moveV : Byte
  readyHz : Bool
  readyV : Bool
  purpose : Purpose
  awaitHz : Bool
  awaitV : Bool
  faultCode : FaultCode
  axisCode : Byte
  further : Bool
  parkPending : Bool
  wakeLimit : Option Nat
  moveLimit : Option Nat
  dozeDelay : Option Nat
  deriving DecidableEq, Repr

/-- Commands of the part on the Axis Link (FIGURE 83). -/
inductive AxisCommand where
  | energize (axis : Axis)
  | rest (axis : Axis)
  | moveTo (axis : Axis) (position : Int) (move : Byte)
  | stop (axis : Axis)
  deriving DecidableEq, Repr

/-- Commands of the part on the Spot Link (spec 06, section 6.1). -/
inductive SensorCommand where
  | on
  | off
  deriving DecidableEq, Repr

/-! ## Orientation (spec 10) -/

/-- Orientation states, in the order of FIGURE 91. -/
inductive OrientState where
  | oriented
  | disturbed
  | reorienting
  | unoriented
  deriving DecidableEq, Repr

/-- The tally of a reorientation (R177). range holds the smallest and the largest residual. -/
structure Tally where
  count : Nat
  sum : Int
  range : Option (Int × Int)
  ids : List Nat
  deriving DecidableEq, Repr

/-- The empty tally. -/
def Tally.empty : Tally := ⟨0, 0, none, []⟩

/-- What the Level Monitor and Orientation Unit holds (R173, R177, R182). -/
structure Orientation where
  state : OrientState
  offset : Int
  outCount : Nat
  inCount : Nat
  tally : Tally
  deriving DecidableEq, Repr

/-! ## Attention (spec 11) -/

/-- Eight attention flags or mask bits, in the order of FIGURE 103. -/
structure Attention where
  news : Bool := false
  displacement : Bool := false
  lost : Bool := false
  overdue : Bool := false
  drive : Bool := false
  level : Bool := false
  orient : Bool := false
  zone : Bool := false
  deriving DecidableEq, Repr

/-! ## The whole part -/

/-- The state of the part. -/
structure State where
  port : Port
  records : List TargetRecord
  clock : SiteTime
  due : List Entry
  slots : Slots
  mode : StationMode
  preempt : Bool
  job : Option JobContext
  patterns : List Pattern
  sensorOn : Bool
  lastFrame : Option (BitVec 16)
  zones : List Zone
  drive : Drive
  orient : Orientation
  flags : Attention
  mask : Attention
  params : Config.Params
  axisOut : List AxisCommand
  sensorOut : List SensorCommand
  spiOut : List Byte
  pending : List Instr
  choices : Nat
  deriving DecidableEq, Repr

/-- The part has no fault that stops it: every event of the manual leaves a next state (log 22). -/
inductive Fault where
  deriving DecidableEq, Repr

/-- Why a command could have no meaning. -/
inductive Refusal where
  /-- The name the host reserves for an arm without a meaning. No arm of this model raises it. Safe: the machine stops. -/
  | notModelled (mnemonic : String)
  deriving DecidableEq, Repr

/-- The single-probe pattern of numbers 1 to 7 after reset (FIGURE 50). -/
def Pattern.single : Pattern :=
  ⟨.line, 0, 0, 0, ⟨0, 0⟩, ⟨0, 0⟩, ⟨0, 0⟩, ⟨0, 0⟩, 1, .ends⟩

/-- Pattern 0 after reset (FIGURE 50). -/
def Pattern.grid : Pattern :=
  ⟨.raster, 4, 4, 0, ⟨20000, 0⟩, ⟨-80000, 20000⟩, ⟨0, 0⟩, ⟨-40000, -40000⟩, 2, .ends⟩

/-- The reset contents of the Pattern Store (R96). -/
def resetPatterns : List Pattern := Pattern.grid :: List.replicate 7 Pattern.single

/-- The drive after power-on (R172). -/
def Drive.reset : Drive where
  state := .rest
  moveHz := 0
  moveV := 0
  readyHz := false
  readyV := false
  purpose := .none
  awaitHz := false
  awaitV := false
  faultCode := .none
  axisCode := 0
  further := false
  parkPending := false
  wakeLimit := none
  moveLimit := none
  dozeDelay := none

/-- The orientation after power-on (R183). -/
def Orientation.reset : Orientation := ⟨.oriented, 0, 0, 0, Tally.empty⟩

/-- The part right after RESET# is released (R31, R46, R69, R94, R96, R129, R147, R157, R172, R183, R185, R188, R191):
REST has been sent to both axes and SENSOR OFF to the sensor, each once (R129, R172). -/
def State.reset : State where
  port := ⟨none, none, false⟩
  records := []
  clock := 0
  due := []
  slots := ⟨none, none, none⟩
  mode := .parked
  preempt := false
  job := none
  patterns := resetPatterns
  sensorOn := false
  lastFrame := none
  zones := []
  drive := Drive.reset
  orient := Orientation.reset
  flags := {}
  mask := {}
  params := Config.Params.reset
  axisOut := [.rest .hz, .rest .v]
  sensorOut := [.off]
  spiOut := []
  pending := []
  choices := 0

end Sys2Proof.Machine
end

