-- ==== Sys2Proof/Machine/Operands.lean ====
section
/-!
DEFINITION. Angle arithmetic, the inside test of zones, predictions, and the range checks of operands
(spec 00, FIGURE 8, FIGURE 49, FIGURE 76, FIGURE 101; R131, R149).
-/

namespace Sys2Proof.Machine

open Config

/-! ## Angles (R1) -/

/-- Hz wrapped into 0 to 16,777,215 (R1). -/
def wrapHz (h : Int) : Int := h % turn

/-- An Hz amount wrapped by whole turns into -8,388,608 to 8,388,607 (R1, R178). -/
def signedHz (h : Int) : Int := (h + halfTurn) % turn - halfTurn

/-- The Hz difference from one direction to another: signed and shortest (R1). -/
def hzDiff (a b : Dir) : Int := signedHz (b.hz - a.hz)

/-- The distance between two directions: the larger of the two absolute differences (R1). -/
def distance (a b : Dir) : Nat := max (hzDiff a b).natAbs (b.v - a.v).natAbs

/-- The direction lies in the window of half-width w around the centre, edge included (R1). -/
def inWindow (centre : Dir) (w : Nat) (d : Dir) : Bool := distance centre d ≤ w

/-- A direction plus an offset: Hz wrapping, V unwrapped (R1). -/
def Dir.add (d : Dir) (o : Offset) : Dir := ⟨wrapHz (d.hz + o.hz), d.v + o.v⟩

/-- V limited to V_LOW through V_HIGH (R131, R136). -/
def clampV (v : Int) : Int := max vLow (min vHigh v)

/-- V lies from V_LOW to V_HIGH, both included (R1). -/
def vInLimits (v : Int) : Bool := vLow ≤ v ∧ v ≤ vHigh

/-- A rate limited to -200,000 through +200,000 au/s (R135). -/
def clampRate (r : Int) : Int := max (-rateLimit) (min rateLimit r)

/-- Elapsed ms from one site time to a later one, modulo 2^32 (R45). -/
def elapsed (earlier later : SiteTime) : Nat := (later - earlier).toNat

/-! ## Classes -/

def ClassFields.cls : ClassFields → TargetClass
  | .static _ => .static
  | .reference _ => .reference
  | .moving _ => .moving

/-- The fields of a STATIC or REFERENCE record (R5). -/
def ClassFields.fixed? : ClassFields → Option FixedFields
  | .static f => some f
  | .reference f => some f
  | .moving _ => none

/-- The quantum of a MOVING record (R5). -/
def ClassFields.quantum? : ClassFields → Option Nat
  | .static _ => none
  | .reference _ => none
  | .moving q => some q

def TargetRecord.isReference (r : TargetRecord) : Bool := r.fields.cls == .reference

/-- The kind of the record's entry and job, by its class (FIGURE 22). -/
def TargetRecord.work (r : TargetRecord) : Work :=
  match r.fields with
  | .static _ => .visit r.id
  | .reference _ => .visit r.id
  | .moving _ => .track r.id

/-! ## Zones (R149) -/

/-- The inside test of one zone (R149). -/
def Zone.contains (z : Zone) (d : Dir) : Bool :=
  wrapHz (d.hz - z.hzFrom) ≤ wrapHz (z.hzTo - z.hzFrom) ∧ z.vLow ≤ d.v ∧ d.v ≤ z.vHigh

/-- The direction lies in an active zone of the kind (R149). -/
def inZones (zones : List Zone) (kind : ZoneKind) (d : Dir) : Bool :=
  zones.any fun z => z.kind == kind && z.contains d

/-! ## Aims and predictions -/

/-- The aim of a VISIT: expected Hz plus the orientation offset, wrapping, and the expected V (R6, R73). -/
def TargetRecord.visitAim (r : TargetRecord) (offset : Int) : Dir :=
  ⟨wrapHz (r.expected.hz + offset), r.expected.v⟩

/-- One predicted coordinate: the confirmed value plus rate times elapsed ms over 1,000, toward zero (R131). -/
def extrapolate (x rate : Int) (ms : Nat) : Int := x + (rate * ms).tdiv 1000

/-- The prediction of a MOVING record at a site time (R131). -/
def TargetRecord.prediction (r : TargetRecord) (t : SiteTime) : Dir :=
  match r.confirmation with
  | none => r.expected
  | some c =>
    match r.rate with
    | none => ⟨c.dir.hz, clampV c.dir.v⟩
    | some rate =>
      ⟨wrapHz (extrapolate c.dir.hz rate.hz (elapsed c.time t)), clampV (extrapolate c.dir.v rate.v (elapsed c.time t))⟩

/-- The lead of a steering command: rate times 40 ms over 1,000, toward zero (R136). -/
def leadOf (rate : Option Offset) : Offset :=
  match rate with
  | none => ⟨0, 0⟩
  | some r => ⟨(r.hz * leadTime).tdiv 1000, (r.v * leadTime).tdiv 1000⟩

/-- The target of a steering command: the direction plus the lead, Hz wrapped, V limited (R136). -/
def steerTarget (d : Dir) (rate : Option Offset) : Dir :=
  ⟨wrapHz (d.hz + (leadOf rate).hz), clampV (d.v + (leadOf rate).v)⟩

/-- One rate: difference times 1,000 over the time difference, toward zero, then limited (R135). -/
def rateOf (diff : Int) (ms : Nat) : Int := clampRate ((diff * 1000).tdiv ms)

/-! ## Ranges of operands -/

def validTargetId (id : Nat) : Bool := 1 ≤ id ∧ id ≤ 65534

def validZoneId (id : Nat) : Bool := 1 ≤ id ∧ id ≤ 255

def validHz (h : Int) : Bool := 0 ≤ h ∧ h < turn

/-- A direction the host may give: Hz 0 to 16,777,215, V from V_LOW to V_HIGH (R1, FIGURE 8, R90). -/
def validDir (d : Dir) : Bool := validHz d.hz && vInLimits d.v

/-- An absent field passes; a present one must satisfy the test. -/
def okIfGiven {α : Type} (p : α → Bool) (x : Option α) : Bool := x.all p

/-- Every field given lies in its range of FIGURE 8, and a band's maximum is not below its minimum. -/
def TargetFields.inRange (f : TargetFields) : Bool :=
  okIfGiven (· ≤ 3) f.level && okIfGiven validDir f.expected && okIfGiven (· ≤ 12000) f.tolerance
    && okIfGiven (fun g => 1 ≤ g ∧ g ≤ 12000) f.gate
    && okIfGiven (fun i => 1 ≤ i ∧ i ≤ 86400) f.interval
    && okIfGiven (· ≤ 600) f.quantum && okIfGiven (· ≤ 30000) f.dwell && okIfGiven (· ≤ 7) f.pattern
    && okIfGiven (fun b => b.1 ≤ b.2 ∧ b.2 ≤ 1023) f.band && okIfGiven (· ≤ 3) f.notify

/-- The notify value of a byte, in the order of FIGURE 8. -/
def notifyOf : Nat → Option Notify
  | 0 => some .none
  | 1 => some .acquire
  | 2 => some .loss
  | 3 => some .both
  | _ => none

/-- The class of a byte, in the order of FIGURE 8. -/
def classOf : Nat → Option TargetClass
  | 0 => some .static
  | 1 => some .reference
  | 2 => some .moving
  | _ => none

def zoneKindOf : Nat → Option ZoneKind
  | 0 => some .shadow
  | 1 => some .glare
  | _ => none

def patternModeOf : Nat → Option PatternMode
  | 0 => some .line
  | 1 => some .raster
  | 2 => some .stack
  | _ => none

def patternEndOf : Nat → Option PatternEnd
  | 0 => some .ends
  | 1 => some .repeats
  | _ => none

def stationModeOf : Nat → Option StationMode
  | 0 => some .active
  | 1 => some .doze
  | 2 => some .parked
  | _ => none

/-- Both components of a step or start offset lie in -1,000,000 to 1,000,000 (FIGURE 49). -/
def stepInRange (o : Offset) : Bool :=
  -1000000 ≤ o.hz ∧ o.hz ≤ 1000000 ∧ -1000000 ≤ o.v ∧ o.v ≤ 1000000

/-- The pattern record of the ten fields, when every one lies in its range (FIGURE 49, R97). -/
def PatternFields.toPattern (p : PatternFields) : Option Pattern :=
  match patternModeOf p.mode, patternEndOf p.ending with
  | some mode, some ending =>
    if p.innerCount ≤ 63 ∧ p.middleCount ≤ 63 ∧ p.outerCount ≤ 15 ∧ stepInRange p.innerStep
        ∧ stepInRange p.middleStep ∧ stepInRange p.outerStep ∧ stepInRange p.start
        ∧ 1 ≤ p.framesPerProbe ∧ p.framesPerProbe ≤ 8 then
      some ⟨mode, p.innerCount, p.middleCount, p.outerCount, p.innerStep, p.middleStep, p.outerStep, p.start,
        p.framesPerProbe, ending⟩
    else none
  | _, _ => none

/-- The zone record of ZONE SET, its lifetime loaded in ms, when every field lies in its range (FIGURE 76, R150). -/
def ZoneFields.toZone (z : ZoneFields) : Option Zone :=
  match zoneKindOf z.kind with
  | none => none
  | some kind =>
    if validZoneId z.id ∧ validHz z.hzFrom ∧ validHz z.hzTo ∧ 0 ≤ z.vLow ∧ z.vLow ≤ z.vHigh ∧ z.vHigh ≤ halfTurn
        ∧ z.lifetime ≤ 86400 then
      some ⟨z.id, kind, z.hzFrom, z.hzTo, z.vLow, z.vHigh, z.lifetime,
        if z.lifetime = 0 then none else some (z.lifetime * 1000)⟩
    else none

/-- The range of a configuration parameter by its number (FIGURE 101). -/
def paramRange : Nat → Option (Nat × Nat)
  | 1 => some (1, 15)
  | 2 => some (1, 15)
  | 3 => some (1, 255)
  | 4 => some (500, 20000)
  | 5 => some (0, 10000)
  | 6 => some (1, 600)
  | 7 => some (10, 3600)
  | 8 => some (0, 3600)
  | 9 => some (0, 600)
  | 10 => some (0, 1023)
  | 11 => some (1, 255)
  | 12 => some (0, 12000)
  | 13 => some (0, 12000)
  | 14 => some (1, 65535)
  | 15 => some (1, 15)
  | 16 => some (1, 8)
  | 17 => some (0, 65535)
  | _ => none

/-- A pair of CONFIGURE names a parameter and a value in its range (R188). -/
def pairInRange (p : Nat × Nat) : Bool :=
  match paramRange p.1 with
  | none => false
  | some (lo, hi) => lo ≤ p.2 ∧ p.2 ≤ hi

/-- Writes one parameter by its number (FIGURE 101). -/
def setParam (c : Params) (p : Nat × Nat) : Params :=
  match p.1 with
  | 1 => { c with confirmFrames := p.2 }
  | 2 => { c with lossFrames := p.2 }
  | 3 => { c with lookFrames := p.2 }
  | 4 => { c with moveLimit := p.2 }
  | 5 => { c with coastLimit := p.2 }
  | 6 => { c with searchLimit := p.2 }
  | 7 => { c with deferLimit := p.2 }
  | 8 => { c with lostRetry := p.2 }
  | 9 => { c with dozeDelay := p.2 }
  | 10 => { c with minStrength := p.2 }
  | 11 => { c with maxSpotSize := p.2 }
  | 12 => { c with ambiguityMargin := p.2 }
  | 13 => { c with rejectRadius := p.2 }
  | 14 => { c with tiltLimit := p.2 }
  | 15 => { c with tiltFilter := p.2 }
  | 16 => { c with refMin := p.2 }
  | 17 => { c with orientSpread := p.2 }
  | _ => c

/-- The 17 values in the order of their numbers (R188). -/
def paramValues (c : Params) : List Nat :=
  [c.confirmFrames, c.lossFrames, c.lookFrames, c.moveLimit, c.coastLimit, c.searchLimit, c.deferLimit,
   c.lostRetry, c.dozeDelay, c.minStrength, c.maxSpotSize, c.ambiguityMargin, c.rejectRadius, c.tiltLimit,
   c.tiltFilter, c.refMin, c.orientSpread]

/-- The copies of the configuration that a job takes at its start (R71). -/
def configCopies (c : Params) : ConfigCopies where
  confirmFrames := c.confirmFrames
  lossFrames := c.lossFrames
  lookFrames := c.lookFrames
  moveLimit := c.moveLimit
  coastLimit := c.coastLimit
  searchLimit := c.searchLimit
  minStrength := c.minStrength
  maxSpotSize := c.maxSpotSize
  ambiguityMargin := c.ambiguityMargin
  rejectRadius := c.rejectRadius

/-- The copies of the record's fields that a job takes at its start (R5). -/
def recordCopies (r : TargetRecord) : RecordCopies where
  level := r.level
  tolerance := r.fields.fixed?.map (·.tolerance)
  gate := r.gate
  band := r.band
  dwell := r.fields.fixed?.map (·.dwell)
  pattern := r.pattern
  quantum := r.fields.quantum?
  notify := r.notify

/-! ## The copies of a job, as its blocks use them (R71) -/

def JobContext.gate (c : JobContext) : Nat := (c.copies.map (·.gate)).getD 0

def JobContext.tolerance (c : JobContext) : Nat := (c.copies.bind (·.tolerance)).getD 0

def JobContext.dwell (c : JobContext) : Nat := (c.copies.bind (·.dwell)).getD 0

def JobContext.band (c : JobContext) : Option Band := c.copies.bind (·.band)

def JobContext.patternNumber (c : JobContext) : Nat := (c.copies.map (·.pattern)).getD 0

def JobContext.quantum (c : JobContext) : Nat := (c.copies.bind (·.quantum)).getD 0

def JobContext.notify (c : JobContext) : Notify := (c.copies.map (·.notify)).getD .none

end Sys2Proof.Machine
end

