-- ==== Sys2Proof/Machine/Flags.lean ====
section
/-!
DEFINITION. Flags: the six flags of a record, the eight attention flags with their mask and ATTN#, NEWS and the
lock edges (spec 01, sections 1.3 and 1.10; spec 11, section 11.6).
-/

namespace Sys2Proof.Machine

/-! ## Records by target id (R4) -/

/-- The record that carries the id (R4). -/
def State.find (s : State) (id : Nat) : Option TargetRecord := s.records.find? fun r => r.id == id

/-- The Target Table changes the record that carries the id. -/
def State.modify (s : State) (id : Nat) (f : TargetRecord → TargetRecord) : State :=
  { s with records := s.records.map fun r => if r.id = id then f r else r }

/-! ## Attention flags and ATTN# (R191) -/

/-- Bitwise, in the order of FIGURE 103. -/
def Attention.toBits (a : Attention) : List Bool :=
  [a.news, a.displacement, a.lost, a.overdue, a.drive, a.level, a.orient, a.zone]

/-- The byte of eight bits, the first being bit 0. -/
def byteOfBits (bits : List Bool) : Byte :=
  bits.foldr (fun b acc => (acc <<< 1) ||| (if b then 1 else 0)) 0

/-- The byte of the flags or mask bits: bit 0 to bit 7 in the order of FIGURE 103 (R193). -/
def Attention.toByte (a : Attention) : Byte := byteOfBits a.toBits

/-- The flags or mask bits of a byte (R193). -/
def Attention.ofByte (b : Byte) : Attention where
  news := b.getLsbD 0
  displacement := b.getLsbD 1
  lost := b.getLsbD 2
  overdue := b.getLsbD 3
  drive := b.getLsbD 4
  level := b.getLsbD 5
  orient := b.getLsbD 6
  zone := b.getLsbD 7

/-- The flags left after clearing those named (R192). -/
def Attention.clear (a named : Attention) : Attention where
  news := a.news && !named.news
  displacement := a.displacement && !named.displacement
  lost := a.lost && !named.lost
  overdue := a.overdue && !named.overdue
  drive := a.drive && !named.drive
  level := a.level && !named.level
  orient := a.orient && !named.orient
  zone := a.zone && !named.zone

/-- ATTN# is asserted: some flag and its mask bit are both set (R191). -/
def State.attn (s : State) : Bool :=
  (s.flags.toBits.zip s.mask.toBits).any fun p => p.1 && p.2

/-! ## Record flags (R193) -/

/-- The byte of the record flags: bit 0 to bit 5 in the order of R193. -/
def RecordFlags.toByte (f : RecordFlags) : Byte :=
  byteOfBits [f.displaced, f.ambiguous, f.deferred, f.overdue, f.unoriented, f.news, false, false]

/-- CLEAR FLAGS names DISPLACED, AMBIGUOUS, OVERDUE and UNORIENTED by their bits (R30). -/
def RecordFlags.clearNamed (f : RecordFlags) (named : Byte) : RecordFlags :=
  { f with
    displaced := f.displaced && !named.getLsbD 0
    ambiguous := f.ambiguous && !named.getLsbD 1
    overdue := f.overdue && !named.getLsbD 3
    unoriented := f.unoriented && !named.getLsbD 4 }

/-- The named subset holds DEFERRED, NEWS, or a bit that names no flag (R30, R194). -/
def namesFixedFlag (named : Byte) : Bool :=
  named.getLsbD 2 || named.getLsbD 5 || named.getLsbD 6 || named.getLsbD 7

def TargetRecord.withFlags (r : TargetRecord) (f : RecordFlags → RecordFlags) : TargetRecord :=
  { r with flags := f r.flags }

/-! ## NEWS and lock edges (R27, R28) -/

/-- A cause sets NEWS on a record: the record flag and the NEWS attention flag (R28). -/
def State.setNews (s : State) (id : Nat) : State :=
  if s.records.any (fun r => r.id == id) then
    { s.modify id (fun r => r.withFlags fun f => { f with news := true }) with flags := { s.flags with news := true } }
  else s

/-- A cause that holds sets NEWS; one that does not hold sets nothing. -/
def State.setNewsIf (s : State) (cause : Bool) (id : Nat) : State := if cause then s.setNews id else s

/-- The notify value includes ACQUIRE edges (R27). -/
def Notify.hearsAcquire : Notify → Bool
  | .none => false
  | .acquire => true
  | .loss => false
  | .both => true

/-- The notify value includes LOSS edges (R27). -/
def Notify.hearsLoss : Notify → Bool
  | .none => false
  | .acquire => false
  | .loss => true
  | .both => true

end Sys2Proof.Machine
end

