-- ==== Sys2Proof/Machine/Ops.lean ====
section
/-!
DEFINITION. Shared operations over the Target Table, the Due List, the suspend slots, the Spot Link and the axis
drives. Every command's meaning is made of these.
-/

namespace Sys2Proof.Machine

open Config

/-! ## Named updates of the state -/

def State.withRecords (s : State) (x : List TargetRecord) : State := { s with records := x }
def State.withDue (s : State) (x : List Entry) : State := { s with due := x }
def State.withSlots (s : State) (x : Slots) : State := { s with slots := x }
def State.withJob (s : State) (x : Option JobContext) : State := { s with job := x }
def State.withPreempt (s : State) (x : Bool) : State := { s with preempt := x }
def State.withDrive (s : State) (x : Drive) : State := { s with drive := x }
def State.withOrient (s : State) (x : Orientation) : State := { s with orient := x }
def State.withFlags (s : State) (x : Attention) : State := { s with flags := x }
def State.withZones (s : State) (x : List Zone) : State := { s with zones := x }

/-- Commands go out on the Axis Link (log 6). -/
def State.sendAxis (s : State) (x : List AxisCommand) : State := { s with axisOut := s.axisOut ++ x }

/-! ## Countdowns and states of records (R32) -/

/-- A record enters WAITING: its countdown is loaded with its interval in ms (R33). -/
def TargetRecord.enterWaiting (r : TargetRecord) : TargetRecord :=
  { r with state := .waiting, countdown := r.fields.fixed?.map fun f => f.interval * 1000 }

/-- The retry countdown of a record that is LOST (R34). -/
def retryCountdown (lostRetry : Nat) : Option Nat := if lostRetry = 0 then none else some (lostRetry * 1000)

/-- A record enters LOST: its rate is removed and its retry countdown loaded (R24, R34). -/
def TargetRecord.enterLost (r : TargetRecord) (lostRetry : Nat) : TargetRecord :=
  { r with state := .lost, rate := none, countdown := retryCountdown lostRetry }

/-- A record leaves DUE: its due reason and its DEFERRED flag are cleared (R8, R10). -/
def TargetRecord.leaveDue (r : TargetRecord) : TargetRecord :=
  { r with dueReason := none, flags := { r.flags with deferred := false } }

/-- Counting is allowed (R35). -/
def State.counting (s : State) : Bool := s.mode != .parked && s.orient.state != .disturbed

/-! ## The Due List (R47, R48) -/

/-- The target id of an entry, none for a POINT. -/
def Work.target : Work → Option Nat
  | .visit id => some id
  | .track id => some id
  | .point _ _ => none

/-- An entry joins the tail of its level. The list holds level 3 first, and the order of joining inside a level (R47). -/
def dueInsert (e : Entry) : List Entry → List Entry
  | [] => [e]
  | x :: xs => if x.level < e.level then e :: x :: xs else x :: dueInsert e xs

/-- The entries of one level, oldest first. -/
def State.level (s : State) (n : Nat) : List Entry := s.due.filter fun e => e.level == n

/-- The entry of a record. -/
def State.entryOf (s : State) (id : Nat) : Option Entry := s.due.find? fun e => e.work.target == some id

/-- The entry of a record leaves, the others keep their order. -/
def dropEntry (id : Nat) (due : List Entry) : List Entry := due.filter fun e => e.work.target != some id

/-- The POINT entry leaves. -/
def dropPoint (due : List Entry) : List Entry := due.filter fun e => e.work.target != none

/-- The Due List holds the POINT entry. -/
def State.pointWaits (s : State) : Bool := s.due.any fun e => e.work.target == none

/-- An entry that joins now: stamped, not deferred (R45, R48). -/
def State.freshEntry (s : State) (work : Work) (level : Nat) (reason : Reason) (levelGiven : Bool) : Entry :=
  ⟨work, level, reason, s.clock, levelGiven, none, none⟩

/-- A record becomes DUE (R10): its countdown is discarded, its due reason set, and its entry joins the level. -/
def State.becomeDue (s : State) (id : Nat) (reason : Reason) (level : Nat) (levelGiven : Bool) : State :=
  match s.find id with
  | none => s
  | some r =>
    (s.modify id fun r => { r with state := .due, countdown := none, dueReason := some reason }).withDue
      (dueInsert (s.freshEntry r.work level reason levelGiven) s.due)

/-- The entry of a DUE record moves to the tail of a level with a reason, keeping its deferral marks (R48). -/
def State.moveEntry (s : State) (id : Nat) (reason : Reason) (level : Nat) (levelGiven : Bool) (joined : SiteTime) : State :=
  match s.entryOf id with
  | none => s
  | some e =>
    (s.modify id fun r => { r with dueReason := some reason }).withDue
      (dueInsert { e with level := level, reason := reason, joined := joined, levelGiven := levelGiven }
        (dropEntry id s.due))

/-! ## Suspend slots (R50) -/

def Slots.get (x : Slots) : Nat → Option JobContext
  | 0 => x.s0
  | 1 => x.s1
  | 2 => x.s2
  | _ => none

def Slots.set (x : Slots) (k : Nat) (c : Option JobContext) : Slots :=
  match k with
  | 0 => { x with s0 := c }
  | 1 => { x with s1 := c }
  | 2 => { x with s2 := c }
  | _ => x

/-- The contexts in the slots. -/
def Slots.contexts (x : Slots) : List JobContext := x.s0.toList ++ x.s1.toList ++ x.s2.toList

/-- The number of the highest occupied slot. -/
def Slots.highest (x : Slots) : Option Nat :=
  if x.s2.isSome then some 2 else if x.s1.isSome then some 1 else if x.s0.isSome then some 0 else none

/-- The context leaves its slot when it is the one the test picks. -/
def Slots.dropIf (x : Slots) (p : JobContext → Bool) : Slots :=
  ⟨x.s0.filter fun c => !p c, x.s1.filter fun c => !p c, x.s2.filter fun c => !p c⟩

/-! ## The Spot Link (R112) -/

/-- SENSOR ON, unless the sensor is on already; it clears the last frame number (R112, R114). -/
def State.sensorSwitchOn (s : State) : State :=
  if s.sensorOn then s
  else { s with sensorOn := true, lastFrame := none, sensorOut := s.sensorOut ++ [.on] }

/-- SENSOR OFF, unless the sensor is off already (R112). -/
def State.sensorSwitchOff (s : State) : State :=
  if s.sensorOn then { s with sensorOn := false, sensorOut := s.sensorOut ++ [.off] } else s

/-! ## The axis drives (spec 09)

A command to both axes goes to the Hz axis first and then to the V axis, here and in every later file: the spec gives the
two no order on the shared link, and this one is the model's choice (log 35). -/

/-- MOVE TO both axes, each with its new move number (R158). -/
def State.moveBoth (s : State) (target : Dir) : State :=
  (s.withDrive { s.drive with moveHz := s.drive.moveHz + 1, moveV := s.drive.moveV + 1 }).sendAxis
    [.moveTo .hz target.hz (s.drive.moveHz + 1), .moveTo .v target.v (s.drive.moveV + 1)]

/-- ENERGIZE to both axes, and the drive is WAKING (R160). -/
def State.energize (s : State) : State :=
  (s.withDrive { s.drive with
    state := .waking, readyHz := false, readyV := false, wakeLimit := some wakeLimit }).sendAxis
    [.energize .hz, .energize .v]

/-- MOVE TO a direction for a job: both marks awaited, the move limit loaded, and the drive is SLEWING (R161). -/
def State.slewTo (s : State) (target : Dir) (limit : Nat) : State :=
  (s.withDrive { s.drive with
    state := .slewing, purpose := .job, awaitHz := true, awaitV := true, moveLimit := some limit }).moveBoth target

/-- The Job Engine asks for a move (R158, R160, R161): a drive in REST is woken, a WAKING one is waited for, and a
READY or SLEWING one is sent MOVE TO, unless the V lies outside the limits. -/
def State.requestMove (s : State) (target : Dir) (limit : Nat) : State :=
  match s.drive.state with
  | .rest => s.energize
  | .waking => s
  | .ready => if vInLimits target.v then s.slewTo target limit else s
  | .slewing => if vInLimits target.v then s.slewTo target limit else s
  | .steering => s
  | .fault => s

/-- The park slew: MOVE TO V_HIGH to the V axis alone (R169). -/
def State.parkSlew (s : State) : State :=
  (s.withDrive { s.drive with
    state := .slewing, purpose := .park, awaitHz := false, awaitV := true, moveLimit := some s.params.moveLimit,
    moveV := s.drive.moveV + 1 }).sendAxis [.moveTo .v vHigh (s.drive.moveV + 1)]

/-- While the park-pending mark is set and the drive is READY, the park slew starts at once (R169). -/
def State.parkIfPending (s : State) : State :=
  if s.drive.parkPending ∧ s.drive.state = .ready then s.parkSlew else s

/-- The drive becomes READY with nothing awaited. -/
def Drive.toReady (d : Drive) : Drive :=
  { d with
    state := .ready, readyHz := false, readyV := false, wakeLimit := none, purpose := .none, awaitHz := false,
    awaitV := false, moveLimit := none }

/-- REST to both axes, and the drive is in REST (R162, R168, R171). -/
def State.restDrive (s : State) : State :=
  (s.withDrive { s.drive.toReady with state := .rest, parkPending := false, dozeDelay := none }).sendAxis
    [.rest .hz, .rest .v]

/-- A stop request, by drive state (R165, FIGURE 87); the park follows when it is pending (R169). -/
def State.stopRequest (s : State) : State :=
  match s.drive.state with
  | .slewing => ((s.withDrive s.drive.toReady).sendAxis [.stop .hz, .stop .v]).parkIfPending
  | .steering => ((s.withDrive s.drive.toReady).sendAxis [.stop .hz, .stop .v]).parkIfPending
  | .rest => s
  | .waking => s
  | .ready => s
  | .fault => s

/-- Steering begins (R164). -/
def State.steeringBegins (s : State) : State :=
  match s.drive.state with
  | .ready => s.withDrive { s.drive.toReady with state := .steering }
  | .slewing => s.withDrive { s.drive.toReady with state := .steering }
  | .steering => s
  | .rest => s
  | .waking => s
  | .fault => s

/-- Steering ends without a STOP (R164). -/
def State.steeringEnds (s : State) : State :=
  if s.drive.state = .steering then s.withDrive s.drive.toReady else s

/-- The drive stands where the doze delay runs: DOZE, READY, no job in flight (R171). -/
def State.dozing (s : State) : Bool := s.mode == .doze && s.drive.state == .ready && s.job.isNone

/-- The doze delay as the end of an event leaves it (R171, log 7): loaded when the three conditions have come to hold,
REST at once for a delay of 0, running on while they hold, discarded when one fails. -/
def State.settleDoze (s : State) : State :=
  if s.dozing then
    if s.drive.dozeDelay.isSome then s
    else if s.params.dozeDelay = 0 then s.restDrive
    else s.withDrive { s.drive with dozeDelay := some (s.params.dozeDelay * 1000) }
  else s.withDrive { s.drive with dozeDelay := none }

end Sys2Proof.Machine
end

