-- ==== Sys2Proof/Machine/Outcomes.lean ====
section
/-!
DEFINITION. Ends of jobs: the outcome applied to the record (R22 to R26), what the drive is left to do (R87), the tally
and the end of a reorientation (R177, R178), the return of reorientation entries (R179), and the emptying of the
suspend slots (R51).
-/

namespace Sys2Proof.Machine

open Config

/-! ## Outcomes (R22 to R26) -/

/-- The outcome is written as the last end before anything else is applied (R22). -/
def State.writeLastEnd (s : State) (id : Nat) (reason : EndReason) : State :=
  s.modify id fun r => { r with lastEnd := some reason }

/-- A CONFIRMED or DISPLACED finding written into the record (R23). -/
def TargetRecord.confirmedBy (r : TargetRecord) (aim : Dir) (f : Found) : TargetRecord :=
  ({ r with
    confirmation := some ⟨f.mean, f.time, f.strength⟩
    residual := some ⟨hzDiff aim f.mean, f.mean.v - aim.v⟩
    missCount := 0
    flags := { r.flags with
      ambiguous := false
      unoriented := r.flags.unoriented || f.suppressed
      displaced := r.flags.displaced || f.displaced } }).enterWaiting

/-- A CONFIRMED or DISPLACED end (R23, R27, R28). -/
def State.applyFound (s : State) (c : JobContext) (id : Nat) (f : Found) : State :=
  match s.find id with
  | none => s
  | some r =>
    let s1 := s.modify id fun r => r.confirmedBy c.aim f
    let s2 := s1.setNewsIf (f.displaced || (decide (0 < r.missCount) && c.notify.hearsAcquire)) id
    if f.displaced then s2.withFlags { s2.flags with displacement := true } else s2

/-- A miss: the miss count goes up by 1 and stops at 255 (R24). -/
def TargetRecord.missed (r : TargetRecord) : TargetRecord := { r with missCount := min 255 (r.missCount + 1) }

/-- The record becomes LOST, and the LOST attention flag is set (R24, R34). -/
def State.becomeLost (s : State) (id : Nat) : State :=
  let s1 := s.modify id fun r => r.enterLost s.params.lostRetry
  s1.withFlags { s1.flags with lost := true }

/-- An AMBIGUOUS end (R24). -/
def State.applyAmbiguous (s : State) (id : Nat) : State :=
  match s.find id with
  | none => s
  | some r =>
    let s1 := s.modify id fun r => r.missed.withFlags fun f => { f with ambiguous := true }
    let s2 := match r.fields with
      | .static _ => s1.modify id TargetRecord.enterWaiting
      | .reference _ => s1.modify id TargetRecord.enterWaiting
      | .moving _ => s1.becomeLost id
    s2.setNews id

/-- A NOT_FOUND end. NEWS is set whether or not the end is also a LOSS edge (R24, R28). -/
def State.applyNotFound (s : State) (id : Nat) : State :=
  if (s.find id).isSome then ((s.modify id TargetRecord.missed).becomeLost id).setNews id else s

/-- The level a record's entry joins: level 3 for reason REORIENT, else the record's own (R10, R26). -/
def joinLevel (reason : Reason) (own : Nat) : Nat := if reason = .reorient then 3 else own

/-- The record rejoins the Due List after an abort or a yield (R25, R26). -/
def State.rejoin (s : State) (id : Nat) (reason : Reason) : State :=
  match s.find id with
  | none => s
  | some r => s.becomeDue id reason (joinLevel reason r.level) false

/-- The reason a record carries after an aborted job: REORIENT is kept, any other becomes SCHEDULE (R26). -/
def abortReason (jobReason : Reason) : Reason := if jobReason = .reorient then .reorient else .schedule

/-- The outcome of a record's job (R22 to R26). RETIRED and CLEARED leave nothing to apply; a POINT touches no record. -/
def State.applyOutcome (s : State) (c : JobContext) (reason : EndReason) : State :=
  match c.target with
  | none => s
  | some id =>
    let s1 := s.writeLastEnd id reason
    match reason with
    | .confirmed => match c.found with | some f => s1.applyFound c id f | none => s1
    | .displaced => match c.found with | some f => s1.applyFound c id f | none => s1
    | .ambiguous => s1.applyAmbiguous id
    | .notFound => s1.applyNotFound id
    | .yielded => s1.rejoin id .schedule
    | .superseded => s1.rejoin id (abortReason c.reason)
    | .shadowed => s1.rejoin id (abortReason c.reason)
    | .disturbed => s1.rejoin id (abortReason c.reason)
    | .parked => s1.rejoin id (abortReason c.reason)
    | .driveFault => s1.rejoin id (abortReason c.reason)
    | .held => s1.modify id fun r => { r with state := .held, countdown := none }
    | .retired => s1
    | .cleared => s1
    | .released => s1
    | .expired => s1
    | .replaced => s1

/-! ## The end of the job in flight (R86, R87) -/

/-- What the axes are left to do at an end (R87, R143, R165). At DISTURBED the Orientation Unit makes the stop
request itself (R174), and at DRIVE_FAULT STOP has been sent (R166). -/
def State.axesAtEnd (s : State) (reason : EndReason) : State :=
  match reason with
  | .retired => s.stopRequest
  | .held => s.stopRequest
  | .superseded => s.stopRequest
  | .shadowed => s.stopRequest
  | .parked => s.stopRequest
  | .cleared => s.stopRequest
  | .yielded => s.steeringEnds
  | .confirmed => s
  | .displaced => s
  | .ambiguous => s
  | .notFound => s
  | .released => s
  | .expired => s
  | .replaced => s
  | .disturbed => s
  | .driveFault => s

/-- A residual joins the tally (R177). -/
def Tally.add (t : Tally) (id : Nat) (residual : Int) : Tally where
  count := t.count + 1
  sum := t.sum + residual
  range := match t.range with
    | none => some (residual, residual)
    | some (lo, hi) => some (min lo residual, max hi residual)
  ids := t.ids ++ [id]

/-- The mean of a REORIENT job handed to the Orientation Unit (R86, R177): used only while the state is REORIENTING, and
never when the job is left over from an earlier reorientation (R179). -/
def State.handToTally (s : State) (c : JobContext) : State :=
  match c.target, c.found with
  | some id, some f =>
    match s.find id with
    | none => s
    | some r =>
      if c.reason = .reorient ∧ c.leftOver = false ∧ s.orient.state = .reorienting then
        s.withOrient { s.orient with
          tally := s.orient.tally.add id (hzDiff (r.visitAim s.orient.offset) f.mean) }
      else s
  | _, _ => s

/-- The in-flight job ends (R86): its timers go with its context, the outcome is applied, a REORIENT finding is handed
over, and the pending-preemption mark is cleared (R62). The follow-up of the Arbiter is the caller's. -/
def State.endJob (s : State) (reason : EndReason) : State :=
  match s.job with
  | none => s
  | some c =>
    let s1 := (((s.withJob none).withPreempt false).axesAtEnd reason).applyOutcome c reason
    match reason with
    | .confirmed => s1.handToTally c
    | .displaced => s1.handToTally c
    | _ => s1

/-! ## Reorientation (R178, R179) -/

/-- A change of the orientation state; both filter counts are set to 0 (R173). -/
def State.enterOrient (s : State) (st : OrientState) : State :=
  s.withOrient { s.orient with state := st, outCount := 0, inCount := 0 }

/-- Returns one REORIENT entry to its record's level with reason SCHEDULE (R179). -/
def State.returnEntry (s : State) (id : Nat) : State :=
  match s.find id with
  | none => s
  | some r => s.moveEntry id .schedule r.level false s.clock

/-- The ids of the entries with reason REORIENT, in their order. -/
def State.reorientIds (s : State) : List Nat :=
  (s.due.filter fun e => e.reason == .reorient).filterMap fun e => e.work.target

/-- Every REORIENT entry returns to its record's level, in order (R179). -/
def State.returnReorient (s : State) : State := s.reorientIds.foldl State.returnEntry s

/-- A REORIENT job in flight when the state leaves REORIENTING keeps its reason, and is left over (R179). -/
def JobContext.leaveReorient (c : JobContext) : JobContext := if c.reason = .reorient then { c with leftOver := true } else c

/-- The job in flight is left over when the state leaves REORIENTING (R179). -/
def State.leaveBehind (s : State) : State := s.withJob (s.job.map JobContext.leaveReorient)

/-- The entry that an aborted left-over job has put at level 3 returns to its record's level (R179). -/
def State.returnLeftOver (s : State) (ended : Option JobContext) : State :=
  match (ended.filter (·.leftOver)).bind (·.target) with
  | none => s
  | some id => s.returnEntry id

/-- After the job that was in flight has ended (R179): outside REORIENTING no entry keeps reason REORIENT; inside, the
entry of a left-over job returns. -/
def State.returnAfter (s : State) (ended : Option JobContext) : State :=
  if s.orient.state = .reorienting then s.returnLeftOver ended else s.returnReorient

/-- The tally is accepted (R178, FIGURE 93). -/
def State.tallyAccepted (s : State) : Bool :=
  match s.orient.tally.range with
  | none => false
  | some (lo, hi) => s.params.refMin ≤ s.orient.tally.count ∧ hi - lo ≤ s.params.orientSpread

/-- The mean residual, toward zero (R178). -/
def Tally.mean (t : Tally) : Int := t.sum.tdiv t.count

/-- The end of a reorientation: the tally is judged (R178). -/
def State.judgeTally (s : State) : State :=
  let t := s.orient.tally
  let s1 :=
    if s.tallyAccepted then
      let s2 := (s.enterOrient .oriented)
      let s3 := s2.withOrient { s2.orient with offset := signedHz (s.orient.offset + t.mean), tally := Tally.empty }
      if t.mean = 0 then s3 else t.ids.foldl State.setNews s3
    else
      let s2 := s.enterOrient .unoriented
      s2.withOrient { s2.orient with tally := Tally.empty }
  s1.withFlags { s1.flags with orient := true }

/-- The reorientation has ended: no REORIENT entry stands in the Due List and no REORIENT job is in flight (R178). -/
def State.reorientDone (s : State) : Bool :=
  s.orient.state == .reorienting && !(s.due.any fun e => e.reason == .reorient)
    && !(s.job.any fun c => c.reason == .reorient)

/-- The Orientation Unit tests whether the reorientation has ended (R178). -/
def State.testReorient (s : State) : State := if s.reorientDone then s.judgeTally else s

/-- The in-flight job ends, and for a REORIENT job the Orientation Unit takes its step (R62, R178, R179). -/
def State.finishJob (s : State) (reason : EndReason) : State :=
  match s.job with
  | none => s
  | some c =>
    if c.reason = .reorient then ((s.endJob reason).returnAfter (some c)).testReorient else s.endJob reason

/-- The reason a VISIT job in DWELL ends with: its found outcome (R84). -/
def JobContext.foundReason (c : JobContext) : EndReason :=
  match c.found with
  | some f => if f.displaced then .displaced else .confirmed
  | none => .confirmed

/-! ## Emptying the slots (R51) -/

/-- The context of one slot leaves it with an end reason (R51). -/
def State.emptySlot (s : State) (reason : EndReason) (k : Nat) : State :=
  match s.slots.get k with
  | none => s
  | some c => (s.withSlots (s.slots.set k none)).applyOutcome c reason

/-- The in-flight job ends first, then slot 2, slot 1, slot 0, each with the same reason; the pending-preemption mark is
cleared (R51). -/
def State.haltAll (s : State) (reason : EndReason) : State :=
  (((s.endJob reason).emptySlot reason 2).emptySlot reason 1 |>.emptySlot reason 0).withPreempt false

end Sys2Proof.Machine
end

