-- ==== Sys2Proof/Machine/Search.lean ====
section
/-!
DEFINITION. Searches (spec 05): generating probes, skipping them, passes, and bringing a probe into hand.
-/

namespace Sys2Proof.Machine

open Config

/-! ## Generating probes (R101 to R103) -/

def Offset.plus (a b : Offset) : Offset := ⟨a.hz + b.hz, a.v + b.v⟩

/-- The direction of the probe in hand: centre plus offset, Hz wrapping, V unwrapped (R101). -/
def SearchState.direction (st : SearchState) : Dir := Dir.add st.centre st.offset

/-- The advance when a probe is done, by the counters as they stood for it; none when it was the last of its pass
(R102, FIGURE 52). -/
def SearchState.advance (st : SearchState) : Option SearchState :=
  let p := st.pattern
  if 0 < st.inner then
    some { st with inner := st.inner - 1, offset := Offset.plus st.offset p.innerStep, frames := 0 }
  else
    match p.mode with
    | .line => none
    | .raster =>
      if 0 < st.middle then
        some { st with inner := p.innerCount, middle := st.middle - 1, offset := Offset.plus st.offset p.middleStep, frames := 0 }
      else none
    | .stack =>
      if 0 < st.middle then
        some { st with inner := p.innerCount, middle := st.middle - 1, offset := Offset.plus st.offset p.middleStep, frames := 0 }
      else if 0 < st.outer then
        some { st with inner := p.innerCount, middle := p.middleCount, outer := st.outer - 1,
                       offset := Offset.plus st.offset p.outerStep, frames := 0 }
      else none

/-- The probes left in the pass, the one in hand included (FIGURE 53). -/
def SearchState.probesLeft (st : SearchState) : Nat :=
  let p := st.pattern
  let line := st.inner + 1
  let layer := line + st.middle * (p.innerCount + 1)
  match p.mode with
  | .line => line
  | .raster => layer
  | .stack => layer + st.outer * ((p.innerCount + 1) * (p.middleCount + 1))

/-- A new pass with its first probe in hand: counters from the counts, offset at the start (R100, R103). -/
def SearchState.restart (st : SearchState) : SearchState :=
  { st with
    inner := st.pattern.innerCount, middle := st.pattern.middleCount, outer := st.pattern.outerCount,
    offset := st.pattern.start, frames := 0 }

/-- From the probe in hand, the first probe of the pass that is not skipped; none when the pass is over (R104). fuel
is the number of probes left (log 26). -/
def scanPass (skip : Dir → Bool) : Nat → SearchState → Option SearchState
  | 0, _ => none
  | fuel + 1, st =>
    if skip st.direction then
      match st.advance with
      | none => none
      | some st' => scanPass skip fuel st'
    else some st

/-- What bringing a probe into hand comes to. -/
inductive ProbeResult where
  /-- The probe in hand is slewed to. -/
  | slew (st : SearchState)
  /-- The stage WAITING (R105). -/
  | wait (st : SearchState)
  /-- The pattern is over: NOT_FOUND (R103). -/
  | over
  deriving DecidableEq, Repr

/-- The probe in hand is slewed to: the pass slewed mark is set (R104, R106). -/
def SearchState.slewed (st : SearchState) : ProbeResult :=
  .slew { st with stage := .slewing, frames := 0, passSlewed := true }

/-- The stage WAITING with the first probe in hand and untested (R103, R105). -/
def SearchState.waits (st : SearchState) : ProbeResult :=
  .wait { st with stage := .waiting, frames := 0, passSlewed := false }

/-- The last probe of a pass is done (R103). A new REPEATS pass that is skipped throughout leaves the mark clear, and
the search waits. -/
def SearchState.passDone (st : SearchState) (skip : Dir → Bool) : ProbeResult :=
  match st.pattern.ending with
  | .ends => .over
  | .repeats =>
    let first := st.restart
    if st.passSlewed then
      match scanPass skip first.probesLeft { first with passSlewed := false } with
      | some st' => st'.slewed
      | none => first.waits
    else first.waits

/-- The probe in hand is tested (R104): slewed to, or skipped with its advance, to the end of the pass. -/
def SearchState.test (st : SearchState) (skip : Dir → Bool) : ProbeResult :=
  match scanPass skip st.probesLeft st with
  | some st' => st'.slewed
  | none => st.passDone skip

/-- The probe in hand is done and the next comes into hand (R102). -/
def SearchState.next (st : SearchState) (skip : Dir → Bool) : ProbeResult :=
  match st.advance with
  | some st' => st'.test skip
  | none => st.passDone skip

/-! ## Searching -/

/-- A probe is skipped: its V lies outside the limits, or it lies in an active SHADOW zone (R104). -/
def State.skips (s : State) (d : Dir) : Bool := !vInLimits d.v || inZones s.zones .shadow d

/-- The context outside CONFIRM: no confirm sums, origin or reference (FIGURE 37). The confirm count stands (R70). -/
def JobContext.leaveConfirm (c : JobContext) : JobContext := { c with sums := none, origin := none, reference := none }

/-- The job stands in SEARCH with this search state; no confirmation is under way (R100). -/
def JobContext.searching (c : JobContext) (st : SearchState) : JobContext :=
  { c.leaveConfirm with phase := .search, search := some st, coastLeft := none }

/-- The result of bringing a probe into hand acts on the job in flight (R103, R105, R106). -/
def State.placeProbe (s : State) (c : JobContext) (r : ProbeResult) : State :=
  match r with
  | .slew st => (s.withJob (some (c.searching st))).requestMove st.direction c.config.moveLimit
  | .wait st => s.withJob (some (c.searching st))
  | .over => (s.withJob (some c)).finishJob .notFound

/-- The probe of the job is done (R102, R107). -/
def State.nextProbe (s : State) (c : JobContext) : State :=
  match c.search with
  | none => s
  | some st => s.placeProbe c (st.next s.skips)

/-- The pattern record of a number (R95). -/
def State.pattern (s : State) (n : Nat) : Pattern := s.patterns.getD n Pattern.single

/-- The search state of a fresh entry: the pattern copied, its counters and its start (R100). -/
def State.freshSearch (s : State) (number : Nat) (centre : Dir) : SearchState :=
  let p := s.pattern number
  ⟨number, p, p.innerCount, p.middleCount, p.outerCount, p.start, centre, .slewing, 0, false, false⟩

/-- A fresh entry into SEARCH about a centre (R100). -/
def State.enterSearch (s : State) (c : JobContext) (centre : Dir) : State :=
  s.placeProbe { c with searchLeft := some (c.config.searchLimit * 1000) }
    ((s.freshSearch c.patternNumber centre).test s.skips)

end Sys2Proof.Machine
end

