-- ==== Sys2Proof/Machine/Arbiter.lean ====
section
/-!
DEFINITION. The Pointing Arbiter (spec 03): eligibility and deferral, the start decision, the start and the resume of jobs,
preemption and suspension.
-/

namespace Sys2Proof.Machine

open Config

/-! ## Eligibility (R53, R54) -/

/-- PARKED, DISTURBED or FAULT: nothing starts (R53). -/
def State.blocked (s : State) : Bool :=
  s.mode == .parked || s.orient.state == .disturbed || s.drive.state == .fault

/-- The aim direction an entry is tested with; none for a POINT, which passes (FIGURE 25). -/
def State.entryAim (s : State) (e : Entry) : Option Dir :=
  match e.work with
  | .visit id => (s.find id).map fun r => r.visitAim s.orient.offset
  | .track id => (s.find id).map fun r => r.prediction s.clock
  | .point _ _ => none

/-- The entry's aim lies in an active SHADOW zone. -/
def State.entryShadowed (s : State) (e : Entry) : Bool := (s.entryAim e).any (inZones s.zones .shadow)

/-- The entry is set aside while the state is REORIENTING, its reason not being REORIENT (R54). -/
def State.setAside (s : State) (e : Entry) : Bool := s.orient.state == .reorienting && e.reason != .reorient

/-- An entry is eligible (R54). -/
def State.eligible (s : State) (e : Entry) : Bool := !s.blocked && !s.setAside e && !s.entryShadowed e

/-! ## Deferral marks (R57) -/

/-- The marks of one entry at a decision that tests the entries (FIGURE 27). -/
def State.markEntry (s : State) (e : Entry) : Entry :=
  if s.setAside e then e
  else if s.entryShadowed e then
    if e.deferredSince.isSome then e
    else { e with deferredSince := some s.clock, deferTimer := some (s.params.deferLimit * 1000) }
  else { e with deferredSince := none, deferTimer := none }

/-- The DEFERRED flag of a record follows the entry it has (R8, R57). -/
def TargetRecord.followEntry (r : TargetRecord) (e : Option Entry) : TargetRecord :=
  match e with
  | none => r
  | some e => r.withFlags fun f => { f with deferred := e.deferredSince.isSome }

/-- Every entry gets its deferral mark (R57). -/
def State.markDeferrals (s : State) : State :=
  let s1 := s.withDue (s.due.map s.markEntry)
  s1.withRecords (s.records.map fun r => r.followEntry (s1.entryOf r.id))

/-! ## Starting a job (R55, R71, R72) -/

/-- A new context (R72): counts 0, nothing found, no search state, an empty rejected list. -/
def newContext (kind : JobKind) (target : Option Nat) (e : Entry) (aim : Dir) (copies : Option RecordCopies)
    (hold : Option HoldTime) (quantum : Option Nat) (cfg : ConfigCopies) : JobContext where
  kind := kind
  target := target
  level := e.level
  reason := e.reason
  phase := .slew
  aim := aim
  lookCount := 0
  ambiguousCount := 0
  confirmCount := 0
  sums := none
  origin := none
  reference := none
  found := none
  emptyCount := 0
  search := none
  rejected := []
  dwellLeft := none
  holdLeft := hold
  coastLeft := none
  searchLeft := none
  quantumLeft := quantum
  previous := none
  shadowMark := false
  leftOver := false
  copies := copies
  config := cfg

/-- The quantum timer of a job: none for a quantum of 0 (R143). -/
def quantumTimer (quantum : Nat) : Option Nat := if quantum = 0 then none else some (quantum * 1000)

/-- The hold of a POINT: 0 means until RELEASE (R90). -/
def holdOf (hold : Nat) : HoldTime := if hold = 0 then .untilRelease else .ms hold

/-- The context built for an entry (R55, R71 to R73, R132). -/
def State.contextFor (s : State) (e : Entry) : Option JobContext :=
  let cfg := configCopies s.params
  match e.work with
  | .visit id => (s.find id).map fun r =>
      newContext .visit (some id) e (r.visitAim s.orient.offset) (some (recordCopies r)) none none cfg
  | .track id => (s.find id).map fun r =>
      newContext .track (some id) e (r.prediction s.clock) (some (recordCopies r)) none
        (quantumTimer ((recordCopies r).quantum.getD 0)) cfg
  | .point aim hold => some (newContext .point none e aim none (some (holdOf hold)) none cfg)

/-- The job takes WAKE or SLEW by the state of the drive, and asks for the move to its aim (FIGURE 38, R74). -/
def State.wakeOrSlew (s : State) (c : JobContext) : State :=
  let phase := match s.drive.state with
    | .rest => Phase.wake
    | .waking => Phase.wake
    | .ready => Phase.slew
    | .slewing => Phase.slew
    | .steering => Phase.slew
    | .fault => Phase.slew
  (s.withJob (some { c with phase := phase })).requestMove c.aim c.config.moveLimit

/-- The record of a job is ACTIVE (R9, R10). -/
def State.activate (s : State) (target : Option Nat) : State :=
  match target with
  | none => s
  | some id => s.modify id fun r => { r.leaveDue with state := .active }

/-- The entry leaves the Due List (R55). -/
def dropWork (w : Work) (due : List Entry) : List Entry := due.filter fun e => e.work != w

/-- An entry starts (R55, R72): it leaves the list, its record becomes ACTIVE, the sensor is on, the doze delay is
cancelled, and the job takes its first phase. -/
def State.startEntry (s : State) (e : Entry) : State :=
  match s.contextFor e with
  | none => s.withDue (dropWork e.work s.due)
  | some c =>
    let s1 := ((s.withDue (dropWork e.work s.due)).activate c.target).sensorSwitchOn
    (s1.withDrive { s1.drive with dozeDelay := none }).wakeOrSlew c

/-! ## Resuming a context (R56, R74, R111, R144) -/

/-- The aim formed at a resume: afresh for VISIT and TRACK, the host's direction for a POINT (R56, R73, R144). -/
def State.resumeAim (s : State) (c : JobContext) : Dir :=
  match c.kind with
  | .point => c.aim
  | .visit => match c.target.bind s.find with
    | some r => r.visitAim s.orient.offset
    | none => c.aim
  | .track => match c.target.bind s.find with
    | some r => r.prediction s.clock
    | none => c.aim

/-- The counts and the track state that a resume sets back (R74, R77, R133, R144). -/
def JobContext.afresh (c : JobContext) (aim : Dir) : JobContext :=
  { c with
    aim := aim, lookCount := 0, ambiguousCount := 0, confirmCount := 0, sums := none, origin := none, reference := none,
    emptyCount := 0, previous := none, shadowMark := false, coastLeft := none }

/-- A resumed search: NOT_FOUND when its limit has run out, else its probe in hand is tested afresh (R111). -/
def State.resumeSearch (s : State) (c : JobContext) : State :=
  match c.search with
  | none => s
  | some st =>
    if st.limitOut then s.finishJob .notFound
    else s.placeProbe c (({ st with frames := 0 } : SearchState).test s.skips)

/-- A context resumed in SEARCH: its aim is formed afresh and its look count set to 0 (R73, R77, log 33); its search state,
its rejected list and its consecutive-ambiguous count come back as they were (R111). -/
def JobContext.backInSearch (c : JobContext) (aim : Dir) : JobContext := { c with aim := aim, lookCount := 0 }

/-- The context goes on in its job (R56, FIGURE 26): the zone test first, except in SEARCH and for a POINT. -/
def State.resumeJob (s : State) (c : JobContext) : State :=
  let s1 := (s.withJob (some c)).activate c.target
  if c.phase = .search then
    let s2 := s1.sensorSwitchOn
    (s2.withDrive { s2.drive with dozeDelay := none }).resumeSearch (c.backInSearch (s.resumeAim c))
  else if c.kind ≠ .point ∧ inZones s.zones .shadow (s.resumeAim c) then s1.finishJob .shadowed
  else
    let s2 := s1.sensorSwitchOn
    (s2.withDrive { s2.drive with dozeDelay := none }).wakeOrSlew (c.afresh (s.resumeAim c))

/-- The context of a slot leaves it and is resumed. -/
def State.resumeSlot (s : State) (k : Nat) : State :=
  match s.slots.get k with
  | none => s
  | some c => (s.withSlots (s.slots.set k none)).resumeJob c

/-! ## The start decision (R52, R55) -/

/-- What a decision chooses. -/
inductive Choice where
  | nothing
  | slot (k : Nat)
  | entry (e : Entry)
  deriving DecidableEq, Repr

/-- The highest level with an occupied slot or an eligible entry; at that level an occupied slot comes first, then the
oldest eligible entry (R55). The list holds the highest level first and the oldest entry first. -/
def State.choose (s : State) : Choice :=
  match s.slots.highest, s.due.find? s.eligible with
  | none, none => .nothing
  | some k, none => .slot k
  | none, some e => .entry e
  | some k, some e => if e.level ≤ k then .slot k else .entry e

/-- A decision that starts nothing leaves the telescope idle: SENSOR OFF (R52, R86). -/
def State.idle (s : State) : State := s.sensorSwitchOff

/-- The start decision (R52 to R57). A resumed context that ends at its resume leads to a decision again (R56); fuel is
more than the number of slots (log 26). -/
def State.decideWithin : Nat → State → State
  | 0, s => s.idle
  | fuel + 1, s =>
    if s.blocked then s.idle
    else
      let s1 := s.markDeferrals
      match s1.choose with
      | .nothing => s1.idle
      | .entry e => s1.startEntry e
      | .slot k =>
        let s2 := s1.resumeSlot k
        if s2.job.isNone then State.decideWithin fuel s2 else s2

/-- The start decision. -/
def State.startDecision (s : State) : State := State.decideWithin 4 s

/-- The decision that follows an event in which the job in flight has ended. -/
def State.decideIfIdle (s : State) : State := if s.job.isNone then s.startDecision else s

/-! ## Preemption (R59 to R61, R89) -/

/-- A suspended job keeps its context, the run of a COAST included, less its remaining coast (R70, R89, R133, R144) and, in
SEARCH, the frame count of the probe in hand (R110). A search that is over is kept as it stands (R107). -/
def JobContext.suspended (c : JobContext) : JobContext :=
  { c with
    coastLeft := none
    search := if c.phase = .search then c.search.map fun st => { st with frames := 0 } else c.search }

/-- The record of a suspended job (R10). -/
def State.deactivate (s : State) (target : Option Nat) : State :=
  match target with
  | none => s
  | some id => s.modify id fun r => { r with state := .suspended }

/-- The job in flight is suspended into the slot of its level, and the Arbiter takes a start decision (R61). A drive in
STEERING returns to READY without a STOP (R144, R164). -/
def State.suspendJob (s : State) (c : JobContext) : State :=
  (((s.steeringEnds.withJob none).withSlots (s.slots.set c.level (some c.suspended))).deactivate c.target).startDecision

/-- An eligible entry stands above the level (R59). -/
def State.outranked (s : State) (level : Nat) : Bool := s.due.any fun e => decide (level < e.level) && s.eligible e

/-- The in-flight job gives way, by its phase (FIGURE 28). -/
def State.giveWay (s : State) (c : JobContext) : State :=
  match c.phase with
  | .confirm => s.withPreempt true
  | .dwell => (s.finishJob c.foundReason).startDecision
  | .wake => s.suspendJob c
  | .slew => s.suspendJob c
  | .look => s.suspendJob c
  | .search => s.suspendJob c
  | .track => s.suspendJob c
  | .coast => s.suspendJob c
  | .hold => s.suspendJob c

/-- The preemption test (R59). -/
def State.preemptionTest (s : State) : State :=
  match s.job with
  | none => s
  | some c => if s.preempt then s else if s.outranked c.level then s.giveWay c else s

/-- A cause of a decision: the start decision with no job in flight, the preemption test with one (R52, R59). -/
def State.arbitrate (s : State) : State := if s.job.isNone then s.startDecision else s.preemptionTest

/-- The pending-preemption mark is taken up when the job has left CONFIRM (R60). -/
def State.takeUpMark (s : State) : State :=
  match s.job with
  | none => s
  | some c => if s.preempt ∧ c.phase ≠ .confirm then (s.withPreempt false).preemptionTest else s

end Sys2Proof.Machine
end

