-- ==== Sys2Proof/Machine/Spots.lean ====
section
/-!
DEFINITION. The Spot Matcher (spec 06): reading a sensor frame from its bytes (FIGURE 107), its form, the screens, the
ranking, the verdict, and which frames are taken.
-/

namespace Sys2Proof.Machine

open Config

/-! ## Values in bytes (R193): the most significant byte first -/

/-- The unsigned value of some bytes. -/
def beNat (bs : List Byte) : Nat := bs.foldl (fun acc b => acc * 256 + b.toNat) 0

/-- The bytes of a field: n bytes from an offset. -/
def fieldAt (bs : List Byte) (off n : Nat) : List Byte := (bs.drop off).take n

/-- An unsigned field. -/
def readU (bs : List Byte) (off n : Nat) : Nat := beNat (fieldAt bs off n)

/-- A two's complement value of n bytes. -/
def signedOf (n x : Nat) : Int := if 2 * x < 256 ^ n then (x : Int) else (x : Int) - (256 ^ n : Nat)

/-- A two's complement field. -/
def readS (bs : List Byte) (off n : Nat) : Int := signedOf n (readU bs off n)

/-! ## Sensor frames (FIGURE 59, FIGURE 107, R113) -/

/-- A spot as the frame lists it. -/
structure RawSpot where
  offset : Offset
  strength : Nat
  size : Nat
  deriving DecidableEq, Repr

/-- A well-formed sensor frame. -/
structure SensorFrame where
  number : BitVec 16
  blinded : Bool
  exposure : Dir
  spots : List RawSpot
  deriving DecidableEq, Repr

/-- Spot k of a frame (FIGURE 107). -/
def rawSpotAt (bs : List Byte) (k : Nat) : RawSpot :=
  ⟨⟨readS bs (12 + 7 * k) 2, readS bs (14 + 7 * k) 2⟩, readU bs (16 + 7 * k) 2, readU bs (18 + 7 * k) 1⟩

/-- A spot carries values inside their ranges (R113). -/
def RawSpot.ok (p : RawSpot) : Bool :=
  p.offset.hz.natAbs ≤ 12000 ∧ p.offset.v.natAbs ≤ 12000 ∧ p.strength ≤ 1023 ∧ p.size ≠ 0

/-- The frame of some bytes; none for a malformed one (R113). -/
def parseSensorFrame (bs : List Byte) : Option SensorFrame :=
  let count := readU bs 11 1
  let status := readU bs 2 1
  let spots := (List.range count).map (rawSpotAt bs)
  if 12 ≤ bs.length ∧ count ≤ 4 ∧ bs.length = 12 + 7 * count ∧ status ≤ 1 ∧ spots.all RawSpot.ok then
    some ⟨BitVec.ofNat 16 (readU bs 0 2), status == 1, ⟨readS bs 3 4, readS bs 7 4⟩, spots⟩
  else none

/-! ## Screening (R118 to R122) -/

/-- A spot with its absolute direction (R118). -/
structure Spot where
  dir : Dir
  strength : Nat
  size : Nat
  deriving DecidableEq, Repr

/-- The absolute direction of a spot: the exposure position plus its offset (R118). -/
def SensorFrame.spotOf (f : SensorFrame) (p : RawSpot) : Spot := ⟨Dir.add f.exposure p.offset, p.strength, p.size⟩

/-- The screens, in the order of FIGURE 61. -/
inductive Screen where
  | strength
  | band
  | size
  | glare
  | rejected
  | gate
  deriving DecidableEq, Repr

/-- The job's band discards the strength (R119). -/
def outsideBand (band : Option Band) (strength : Nat) : Bool :=
  band.any fun b => decide (strength < b.lo) || decide (b.hi < strength)

/-- The first screen that discards a spot; none for a survivor (FIGURE 61). -/
def screenSpot (c : JobContext) (zones : List Zone) (reference : Dir) (p : Spot) : Option Screen :=
  if p.strength < c.config.minStrength then some .strength
  else if outsideBand c.band p.strength then some .band
  else if c.config.maxSpotSize < p.size then some .size
  else if inZones zones .glare p.dir then some .glare
  else if c.rejected.any (fun d => inWindow d c.config.rejectRadius p.dir) then some .rejected
  else if c.phase ≠ .search ∧ ¬ inWindow reference c.gate p.dir then some .gate
  else none

/-- The working list of a frame: every spot with the screen that discarded it (R127). -/
def SensorFrame.workingList (f : SensorFrame) (c : JobContext) (zones : List Zone) (reference : Dir) :
    List (Spot × Option Screen) :=
  (f.spots.map f.spotOf).map fun p => (p, screenSpot c zones reference p)

/-- The survivors of a working list. -/
def survivors (w : List (Spot × Option Screen)) : List Spot := (w.filter fun x => x.2.isNone).map (·.1)

/-! ## Ranking and the verdict (R124) -/

/-- A spot stands before every spot of a ranked list that is not nearer. -/
def insertNear (reference : Dir) (p : Spot) : List Spot → List Spot
  | [] => [p]
  | x :: xs =>
    if distance reference p.dir ≤ distance reference x.dir then p :: x :: xs else x :: insertNear reference p xs

/-- The survivors, the nearest first; at equal distance in the frame's order (R124). -/
def rankSpots (reference : Dir) (l : List Spot) : List Spot := l.foldr (insertNear reference) []

/-- A verdict (R125). -/
inductive Verdict where
  | matched (dir : Dir) (strength : Nat)
  | empty
  | ambiguous
  deriving DecidableEq, Repr

/-- The verdict of the ranked survivors (FIGURE 63). -/
def verdictOf (margin : Nat) (reference : Dir) (ranked : List Spot) : Verdict :=
  match ranked with
  | [] => .empty
  | [p] => .matched p.dir p.strength
  | p :: q :: _ =>
    if margin ≤ distance reference q.dir - distance reference p.dir then .matched p.dir p.strength else .ambiguous

/-- The prediction of the record of a TRACK job at this event (R131); the aim for a job without a record. -/
def State.predicted (s : State) (c : JobContext) : Dir :=
  match c.target.bind s.find with
  | some r => r.prediction s.clock
  | none => c.aim

/-- The reference of a frame, by job kind and phase (FIGURE 62). -/
def State.referenceFor (s : State) (c : JobContext) : Dir :=
  match c.phase, c.reference, c.search with
  | .search, _, some st => st.centre
  | .confirm, some d, _ => d
  | _, _, _ =>
    match c.kind with
    | .visit => c.aim
    | .track => s.predicted c
    | .point => c.aim

/-- The verdict of a frame for the job (R117, R124): a BLINDED frame is empty. -/
def State.judge (s : State) (c : JobContext) (f : SensorFrame) : Verdict :=
  let reference := s.referenceFor c
  if f.blinded then .empty
  else verdictOf c.config.ambiguityMargin reference
    (rankSpots reference (survivors (f.workingList c s.zones reference)))

/-! ## Which frames are taken (R115) -/

/-- The job takes a frame in its phase and stage, with the drive as it stands (FIGURE 60). -/
def State.takes (s : State) (c : JobContext) : Bool :=
  match c.phase with
  | .look => s.drive.state == .ready
  | .confirm => s.drive.state == .ready
  | .search => s.drive.state == .ready && c.search.any fun st => st.stage == .taking
  | .track => s.drive.state == .steering
  | .coast => s.drive.state == .steering
  | .wake => false
  | .slew => false
  | .dwell => false
  | .hold => false

end Sys2Proof.Machine
end

