-- ==== Sys2Proof/Machine/Track.lean ====
section
/-!
DEFINITION. Tracking (spec 07): the entry into TRACK, steering commands, rates, the loss filter, the shadow test, COAST
and its expiry.
-/

namespace Sys2Proof.Machine

open Config

/-! ## Sums and means (R79, R81) -/

/-- The confirm sums after the first confirming frame (R79). -/
def ConfirmSums.start (d : Dir) (strength : Nat) : ConfirmSums := ⟨d, 0, d.v, strength⟩

/-- A further matched frame joins the sums (R79). -/
def ConfirmSums.add (x : ConfirmSums) (d : Dir) (strength : Nat) : ConfirmSums :=
  { x with hz := x.hz + hzDiff x.first d, v := x.v + d.v, strength := x.strength + strength }

/-- The mean direction, each division toward zero (R81). -/
def ConfirmSums.mean (x : ConfirmSums) (n : Nat) : Dir := ⟨wrapHz (x.first.hz + x.hz.tdiv n), x.v.tdiv n⟩

/-- The mean strength (R81). -/
def ConfirmSums.meanStrength (x : ConfirmSums) (n : Nat) : Nat := x.strength / n

/-- The confirm fields are discarded (R80, R134). -/
def JobContext.unconfirmed (c : JobContext) : JobContext :=
  { c.leaveConfirm with confirmCount := 0 }

/-! ## Steering (R136) -/

/-- The rate of the job's record as it stands. -/
def State.rateFor (s : State) (c : JobContext) : Option Offset := (c.target.bind s.find).bind (·.rate)

/-- A steering command for a direction: MOVE TO both axes with the lead of the record's rate (R136). -/
def State.steer (s : State) (c : JobContext) (d : Dir) : State := s.moveBoth (steerTarget d (s.rateFor c))

/-! ## The entry into TRACK (R134) -/

/-- The acquisition written into the record (R25, R134). -/
def TargetRecord.acquired (r : TargetRecord) (mean : Dir) (strength : Nat) (time : SiteTime) : TargetRecord :=
  { r with
    confirmation := some ⟨mean, time, strength⟩
    missCount := 0
    flags := { r.flags with ambiguous := false } }

/-- The context in TRACK, its shadow mark given (R134). -/
def JobContext.tracking (c : JobContext) (mark : Bool) : JobContext :=
  { c.unconfirmed with
    phase := .track, emptyCount := 0, previous := none, coastLeft := none, searchLeft := none, shadowMark := mark }

/-- The job enters TRACK with a mean (R134): the acquisition and its ACQUIRE edge, the shadow mark, steering. -/
def State.enterTrack (s : State) (c : JobContext) (mean : Dir) (strength : Nat) : State :=
  match c.target with
  | none => s
  | some id =>
    let s1 := (s.modify id fun r => r.acquired mean strength s.clock).setNewsIf c.notify.hearsAcquire id
    let c1 := c.tracking (inZones s1.zones .shadow (s1.predicted c))
    ((s1.withJob (some c1)).steeringBegins).steer c1 mean

/-! ## COAST (R139 to R141) -/

/-- The coast is over: steering ends, and the job makes a fresh entry into SEARCH about its prediction (R141). -/
def State.coastExpires (s : State) (c : JobContext) : State :=
  s.steeringEnds.enterSearch { c.unconfirmed with coastLeft := none } (s.predicted c)

/-- The context in COAST (R139). -/
def JobContext.coasting (c : JobContext) : JobContext :=
  { c.unconfirmed with
    phase := .coast, emptyCount := 0, previous := none, shadowMark := false, coastLeft := some c.config.coastLimit }

/-- The job enters COAST (R139): the LOSS edge, the coast timer, the steering command; for a limit of 0 the expiry
follows at the same event. -/
def State.enterCoast (s : State) (c : JobContext) : State :=
  match c.target with
  | none => s
  | some id =>
    let s1 := (s.setNewsIf c.notify.hearsLoss id).withJob (some c.coasting)
    let s2 := s1.steer c (s1.predicted c)
    if c.config.coastLimit = 0 then s2.coastExpires c.coasting else s2

/-- The run in COAST takes a matched frame (R140). -/
def JobContext.runMatched (c : JobContext) (d : Dir) (strength : Nat) : JobContext :=
  { c with
    confirmCount := c.confirmCount + 1
    sums := some (match c.sums with
      | none => ConfirmSums.start d strength
      | some x => x.add d strength) }

/-- The run may be complete: the mean takes the job into TRACK (R140). -/
def State.runReached (s : State) (c : JobContext) : State :=
  match c.sums with
  | none => s.withJob (some c)
  | some x =>
    if c.config.confirmFrames ≤ c.confirmCount then
      s.enterTrack c (x.mean c.confirmCount) (x.meanStrength c.confirmCount)
    else s.withJob (some c)

/-- A verdict acted on in COAST (R140). -/
def State.coastVerdict (s : State) (c : JobContext) (v : Verdict) : State :=
  match v with
  | .matched d q => s.runReached (c.runMatched d q)
  | .empty => s.withJob (some c.unconfirmed)
  | .ambiguous => s.withJob (some c.unconfirmed)

/-- A frame taken in COAST: the steering command first, then the verdict (R140). -/
def State.coastFrame (s : State) (c : JobContext) (v : Verdict) : State :=
  (s.steer c (s.predicted c)).coastVerdict c v

/-! ## TRACK (R135, R137, R138) -/

/-- The rate of a matched frame: none for the first of a stay, or for a time difference of 0 (R135). -/
def trackRate (previous : Option (Dir × SiteTime)) (d : Dir) (now : SiteTime) : Option Offset :=
  match previous with
  | none => none
  | some (d0, t0) =>
    if elapsed t0 now = 0 then none
    else some ⟨rateOf (hzDiff d0 d) (elapsed t0 now), rateOf (d.v - d0.v) (elapsed t0 now)⟩

/-- The track report written into the record: a rate only when one was computed (R25, R135). -/
def TargetRecord.tracked (r : TargetRecord) (d : Dir) (strength : Nat) (time : SiteTime) (rate : Option Offset) :
    TargetRecord :=
  { r with confirmation := some ⟨d, time, strength⟩, rate := rate.or r.rate }

/-- A matched verdict in TRACK (R135). -/
def State.trackMatched (s : State) (c : JobContext) (d : Dir) (strength : Nat) : State :=
  match c.target with
  | none => s
  | some id =>
    let s1 := s.modify id fun r => r.tracked d strength s.clock (trackRate c.previous d s.clock)
    (s1.withJob (some { c with previous := some (d, s.clock), emptyCount := 0 })).steer c d

/-- A frame without the prism in TRACK: the loss filter (R137). -/
def State.trackMissed (s : State) (c : JobContext) : State :=
  let c1 := { c with emptyCount := c.emptyCount + 1 }
  if c.config.lossFrames ≤ c1.emptyCount then s.enterCoast c1 else s.withJob (some c1)

/-- A verdict acted on in TRACK, after the shadow test (R135, R137). -/
def State.trackVerdict (s : State) (c : JobContext) (v : Verdict) : State :=
  match v with
  | .matched d q => s.trackMatched c d q
  | .empty => s.trackMissed c
  | .ambiguous => s.trackMissed c

/-- A frame that the shadow test sends to COAST: its verdict is acted on there, unless the coast is over at the same
event (R138, R139, log 11). -/
def State.coastOnFrame (s : State) (c : JobContext) (v : Verdict) : State :=
  if c.config.coastLimit = 0 then s.enterCoast c else (s.enterCoast c).coastFrame c.coasting v

/-- A frame taken in TRACK: the shadow test first (FIGURE 71), then the verdict. -/
def State.trackFrame (s : State) (c : JobContext) (v : Verdict) : State :=
  if inZones s.zones .shadow (s.predicted c) then
    if c.shadowMark then s.trackVerdict c v else s.coastOnFrame c v
  else s.trackVerdict { c with shadowMark := false } v

end Sys2Proof.Machine
end

