-- ==== Sys2Proof/Machine/Visit.lean ====
section
/-!
DEFINITION. The verdicts of LOOK, CONFIRM and SEARCH, and the evaluation of a visit (R77 to R84, R106, R107), and the
sensor frame as a command.
-/

namespace Sys2Proof.Machine

open Config

/-! ## The evaluation (R81 to R84) -/

/-- A finding is the found outcome: DWELL, or the end when the dwell copy is 0 (R82, R84). The confirm count stands (R70). -/
def State.visitFound (s : State) (c : JobContext) (f : Found) : State :=
  let c1 := { c.leaveConfirm with found := some f, searchLeft := none }
  if c.dwell = 0 then (s.withJob (some c1)).finishJob c1.foundReason
  else s.withJob (some { c1 with phase := .dwell, dwellLeft := some c.dwell })

/-- A direction joins the rejected list, of which the 4 most recent are kept, oldest first (R83). -/
def joinRejected (l : List Dir) (d : Dir) : List Dir :=
  let l1 := l ++ [d]
  l1.drop (l1.length - rejectedMax)

/-- A foreign finding: the mean is rejected, and the search goes on with the next probe (R83, R107). The confirm count
stands until the next CONFIRM sets it (R70, R79). -/
def State.foreignFound (s : State) (c : JobContext) (mean : Dir) : State :=
  s.nextProbe { c.leaveConfirm with rejected := joinRejected c.rejected mean }

/-- The finding of a mean inside the gate window, by its distance and the orientation state (FIGURE 42). -/
def State.findingFor (s : State) (c : JobContext) (mean : Dir) (strength : Nat) : Found :=
  if distance c.aim mean ≤ c.tolerance then ⟨false, mean, strength, s.clock, false⟩
  else match s.orient.state with
    | .oriented => ⟨true, mean, strength, s.clock, false⟩
    | .unoriented => ⟨false, mean, strength, s.clock, true⟩
    | .reorienting => ⟨false, mean, strength, s.clock, false⟩
    | .disturbed => ⟨false, mean, strength, s.clock, false⟩

/-- The evaluation of a completed CONFIRM (R81, R82, R132). -/
def State.evaluate (s : State) (c : JobContext) (mean : Dir) (strength : Nat) : State :=
  match c.kind with
  | .track => s.enterTrack c mean strength
  | .visit =>
    if distance c.aim mean ≤ max c.tolerance c.gate then s.visitFound c (s.findingFor c mean strength)
    else s.foreignFound c mean
  | .point => s

/-! ## CONFIRM (R79, R80) -/

/-- After a confirming frame: the mean is evaluated when the confirm count has been reached (R79). -/
def State.confirmReached (s : State) (c : JobContext) : State :=
  match c.sums with
  | none => s.withJob (some c)
  | some x =>
    if c.config.confirmFrames ≤ c.confirmCount then
      s.evaluate c (x.mean c.confirmCount) (x.meanStrength c.confirmCount)
    else s.withJob (some c)

/-- The context after the entering frame of CONFIRM (R79). -/
def JobContext.confirming (c : JobContext) (origin : Origin) (d : Dir) (strength : Nat) : JobContext :=
  { c with
    phase := .confirm, ambiguousCount := 0, confirmCount := 1, sums := some (ConfirmSums.start d strength),
    origin := some origin
    reference := match origin with
      | .look => none
      | .search => some d }

/-- The job enters CONFIRM (R79). -/
def State.enterConfirm (s : State) (c : JobContext) (origin : Origin) (d : Dir) (strength : Nat) : State :=
  s.confirmReached (c.confirming origin d strength)

/-! ## LOOK (R77, R78) -/

/-- The two counts are tested after a verdict in LOOK (R78). -/
def State.lookTest (s : State) (c : JobContext) : State :=
  if c.config.confirmFrames ≤ c.ambiguousCount then (s.withJob (some c)).finishJob .ambiguous
  else if c.config.lookFrames ≤ c.lookCount then s.enterSearch c c.aim
  else s.withJob (some c)

/-- A verdict in LOOK (FIGURE 40), and one that has broken a CONFIRM entered from LOOK (FIGURE 41). -/
def State.lookVerdict (s : State) (c : JobContext) (v : Verdict) : State :=
  match v with
  | .matched d q => s.enterConfirm c .look d q
  | .empty => s.lookTest { c with phase := .look, lookCount := c.lookCount + 1, ambiguousCount := 0 }
  | .ambiguous =>
    s.lookTest { c with phase := .look, lookCount := c.lookCount + 1, ambiguousCount := c.ambiguousCount + 1 }

/-! ## SEARCH (R106, R107) -/

/-- A probe has taken a frame without a match: done when its frames have been taken (R106). -/
def State.probeCounted (s : State) (c : JobContext) (st : SearchState) : State :=
  let c1 := { c with search := some { st with frames := st.frames + 1 } }
  if st.pattern.framesPerProbe ≤ st.frames + 1 then s.nextProbe c1 else s.withJob (some c1)

/-- A verdict at a probe (FIGURE 54). -/
def State.probeVerdict (s : State) (c : JobContext) (v : Verdict) : State :=
  match c.search with
  | none => s
  | some st =>
    match v with
    | .matched d q => s.enterConfirm c .search d q
    | .empty => s.probeCounted { c with ambiguousCount := 0 } st
    | .ambiguous =>
      let c1 := { c with ambiguousCount := c.ambiguousCount + 1 }
      if c.config.confirmFrames ≤ c1.ambiguousCount then (s.withJob (some c1)).finishJob .ambiguous
      else s.probeCounted c1 st

/-- A CONFIRM entered from SEARCH is broken (FIGURE 41): the probe is done. -/
def State.searchBroken (s : State) (c : JobContext) : State :=
  if c.config.confirmFrames ≤ c.ambiguousCount then (s.withJob (some c)).finishJob .ambiguous else s.nextProbe c

/-- A verdict in CONFIRM (R79, R80). -/
def State.confirmVerdict (s : State) (c : JobContext) (v : Verdict) : State :=
  match v with
  | .matched d q =>
    s.confirmReached
      { c with confirmCount := c.confirmCount + 1, sums := c.sums.map (·.add d q), ambiguousCount := 0 }
  | .empty =>
    match c.origin with
    | some .search => s.searchBroken { c.unconfirmed with ambiguousCount := 0 }
    | some .look => s.lookVerdict c.unconfirmed .empty
    | none => s.lookVerdict c.unconfirmed .empty
  | .ambiguous =>
    match c.origin with
    | some .search => s.searchBroken { c.unconfirmed with ambiguousCount := c.ambiguousCount + 1 }
    | some .look => s.lookVerdict c.unconfirmed .ambiguous
    | none => s.lookVerdict c.unconfirmed .ambiguous

/-! ## The frame (R115, R125) -/

/-- The job acts on a verdict as its phase calls for (R125). -/
def State.actOnVerdict (s : State) (c : JobContext) (v : Verdict) : State :=
  match c.phase with
  | .look => s.lookVerdict c v
  | .confirm => s.confirmVerdict c v
  | .search => s.probeVerdict c v
  | .track => s.trackFrame c v
  | .coast => s.coastFrame c v
  | .wake => s
  | .slew => s
  | .dwell => s
  | .hold => s

/-- What the Arbiter does after the job has acted: the decision of an end, or the pending-preemption mark taken up
(R52, R60); then the doze delay is judged (log 7). -/
def State.followUp (s : State) : State :=
  (if s.job.isNone then s.startDecision else s.takeUpMark).settleDoze

/-- A well-formed frame arrives (R114, R115). -/
def State.frameArrives (s : State) (f : SensorFrame) : State :=
  match s.job with
  | none => s
  | some c =>
    if s.lastFrame = some f.number then s
    else if s.takes c then
      (({ s with lastFrame := some f.number } : State).actOnVerdict c (s.judge c f)).followUp
    else s

/-- SENSOR_FRAME (R113, R115): a malformed frame changes nothing. -/
def execSensorFrame (bytes : List Byte) (s : State) : Host.Outcome State Fault Refusal :=
  match parseSensorFrame bytes with
  | none => .next s
  | some f => .next (s.frameArrives f)

end Sys2Proof.Machine
end

