-- ==== Sys2Proof/Machine/Drives.lean ====
section
/-!
DEFINITION. The reports of the axes, drive faults, and the expiries of the drive timers (spec 09).
-/

namespace Sys2Proof.Machine

open Config

/-! ## Waking (R160) -/

/-- The drive has become READY at the end of a wake (R75, R106, R160, R169): a job in WAKE enters SLEW, a search waiting
for the wake is sent to its probe, a pending park starts. -/
def State.wakeEnds (s : State) : State :=
  match s.job with
  | none => s.parkIfPending
  | some c =>
    match c.phase, c.search with
    | .wake, _ => (s.withJob (some { c with phase := .slew })).requestMove c.aim c.config.moveLimit
    | .search, some st => if st.stage = .slewing then s.requestMove st.direction c.config.moveLimit else s
    | _, _ => s

/-- The ready mark of an axis is set (R160). -/
def Drive.markReady (d : Drive) (axis : Axis) : Drive :=
  match axis with
  | .hz => { d with readyHz := true }
  | .v => { d with readyV := true }

/-- READY_REPORT (R160, R162): taken in WAKING alone. -/
def execReadyReport (axis : Axis) (s : State) : Host.Outcome State Fault Refusal :=
  let d := s.drive.markReady axis
  if s.drive.state = .waking then
    if d.readyHz && d.readyV then .next ((s.withDrive d.toReady).wakeEnds.settleDoze) else .next (s.withDrive d)
  else .next s

/-! ## Arriving (R162) -/

/-- The Job Engine is told that the drive stands at the job's target (R76, R91, R106, R109): LOOK, HOLD, the frames of the
probe, or NOT_FOUND for a search whose limit ran out in the slew. -/
def State.arrived (s : State) : State :=
  match s.job with
  | none => s
  | some c =>
    match c.phase, c.kind, c.search with
    | .slew, .point, _ => s.withJob (some { c with phase := .hold })
    | .slew, .visit, _ => s.withJob (some { c with phase := .look })
    | .slew, .track, _ => s.withJob (some { c with phase := .look })
    | .search, _, some st =>
      if st.stage = .slewing then
        if st.limitOut then (s.finishJob .notFound).startDecision
        else s.withJob (some { c with search := some { st with stage := .taking, frames := 0 } })
      else s
    | _, _, _ => s

/-- The slew is over: what follows by its purpose (FIGURE 86); a park that is pending starts (R169). -/
def State.slewEnds (s : State) (purpose : Purpose) : State :=
  match purpose with
  | .job => ((s.withDrive s.drive.toReady).arrived).parkIfPending
  | .park => s.restDrive
  | .none => (s.withDrive s.drive.toReady).parkIfPending

/-- An AT POSITION counts: SLEWING, its axis awaited, the current move number (R158, R162). -/
def Drive.answers (d : Drive) (axis : Axis) (move : Byte) : Bool :=
  d.state == .slewing &&
    match axis with
    | .hz => d.awaitHz && move == d.moveHz
    | .v => d.awaitV && move == d.moveV

/-- The awaited mark of an axis is cleared (R162). -/
def Drive.clearAwait (d : Drive) (axis : Axis) : Drive :=
  match axis with
  | .hz => { d with awaitHz := false }
  | .v => { d with awaitV := false }

/-- AT_POSITION (R162). The position reached is not looked at (log 27). -/
def execAtPosition (axis : Axis) (_position : Int) (move : Byte) (s : State) : Host.Outcome State Fault Refusal :=
  let d := s.drive.clearAwait axis
  if s.drive.answers axis move then
    if d.awaitHz || d.awaitV then .next (s.withDrive d)
    else .next (((s.withDrive d).slewEnds d.purpose).settleDoze)
  else .next s

/-! ## Faults (R166, R167) -/

/-- The drive in FAULT (R166): timers and marks discarded, the code recorded, the indicator clear. -/
def Drive.faulted (d : Drive) (code : FaultCode) (axisCode : Byte) : Drive :=
  { d.toReady with
    state := .fault, parkPending := false, dozeDelay := none, faultCode := code, axisCode := axisCode,
    further := false }

/-- The entry into FAULT (R166): STOP, the drive, DRIVE, then the Arbiter ends the job and empties the slots (R51), the
Orientation Unit tests whether a reorientation has ended with the job (R178), and the decision starts nothing. -/
def State.driveFaults (s : State) (code : FaultCode) (axisCode : Byte) : State :=
  let s1 := (s.sendAxis [.stop .hz, .stop .v]).withDrive (s.drive.faulted code axisCode)
  let s2 := s1.withFlags { s1.flags with drive := true }
  ((((s2.haltAll .driveFault).returnAfter s.job).testReorient).startDecision).settleDoze

/-- A fault report: the entry into FAULT, or a further fault (R166, R167). -/
def State.faultReported (s : State) (code : FaultCode) (axisCode : Byte) : State :=
  if s.drive.state = .fault then
    (s.withDrive { s.drive with further := true }).withFlags { s.flags with drive := true }
  else s.driveFaults code axisCode

/-- The code of a stalled axis (FIGURE 88). -/
def stallCode : Axis → FaultCode
  | .hz => .stallHz
  | .v => .stallV

/-- The code of a faulty axis (FIGURE 88). -/
def axisFaultCode : Axis → FaultCode
  | .hz => .axisHz
  | .v => .axisV

/-- STALLED (R166, R167). -/
def execStalled (axis : Axis) (s : State) : Host.Outcome State Fault Refusal :=
  .next (s.faultReported (stallCode axis) 0)

/-- FAULT, with the unit's code (R166, R167). -/
def execFault (axis : Axis) (code : Byte) (s : State) : Host.Outcome State Fault Refusal :=
  .next (s.faultReported (axisFaultCode axis) code)

/-! ## Drive timers (R160, R163, R171) -/

/-- WAKE_LIMIT_EXPIRY: only while the wake limit runs (R160, log 2). -/
def execWakeLimitExpiry (s : State) : Host.Outcome State Fault Refusal :=
  .next (if s.drive.wakeLimit.isSome then s.driveFaults .wakeTimeout 0 else s)

/-- MOVE_LIMIT_EXPIRY: only while the move limit runs (R163, log 2). -/
def execMoveLimitExpiry (s : State) : Host.Outcome State Fault Refusal :=
  .next (if s.drive.moveLimit.isSome then s.driveFaults .moveTimeout 0 else s)

/-- DOZE_DELAY_EXPIRY: REST to both axes (R171). -/
def execDozeDelayExpiry (s : State) : Host.Outcome State Fault Refusal :=
  .next (if s.drive.dozeDelay.isSome then s.restDrive else s)

/-! ## DRIVE RESET (R168) -/

/-- The drive leaves FAULT for REST; the Arbiter takes a start decision. -/
def State.resetDrive (s : State) : State :=
  let s1 := (s.withDrive { s.drive with state := .rest, faultCode := .none, axisCode := 0, further := false }).sendAxis
    [.rest .hz, .rest .v]
  s1.startDecision.settleDoze

end Sys2Proof.Machine
end

