-- ==== Sys2Proof/Machine/Level.lean ====
section
/-!
DEFINITION. The Level Monitor and the Orientation Unit (spec 10): tilt samples, the disturbance, the settle, and the start
of a reorientation.
-/

namespace Sys2Proof.Machine

open Config

/-! ## The start of a reorientation (R176) -/

/-- The records that take part: REFERENCE, and WAITING, LOST or DUE (R176). -/
def TargetRecord.takesPart (r : TargetRecord) : Bool :=
  r.isReference && (r.state == .waiting || r.state == .lost || r.state == .due)

/-- One record becomes a REORIENT record: it becomes DUE at level 3, or its entry moves there (R176, R48). -/
def State.makeReorient (s : State) (id : Nat) : State :=
  match s.find id with
  | none => s
  | some r =>
    match r.state with
    | .waiting => s.becomeDue id .reorient 3 false
    | .lost => s.becomeDue id .reorient 3 false
    | .due => s.moveEntry id .reorient 3 false s.clock
    | .active => s
    | .suspended => s
    | .held => s

/-- REORIENTING is entered: the records in slot order, then an empty tally (R176). -/
def State.startReorientation (s : State) : State :=
  let s1 := ((s.records.filter TargetRecord.takesPart).map (·.id)).foldl State.makeReorient (s.enterOrient .reorienting)
  s1.withOrient { s1.orient with tally := Tally.empty }

/-! ## Tilt samples (R173 to R175) -/

/-- A sample is out of window (R173). -/
def outOfWindow (limit : Nat) (cross long : Int) : Bool := limit < cross.natAbs || limit < long.natAbs

/-- The disturbance, in the order of R174. -/
def State.disturb (s : State) : State :=
  let s1 := (((s.enterOrient .disturbed).haltAll .disturbed).stopRequest).returnReorient
  let s2 := s1.withOrient { s1.orient with tally := Tally.empty }
  ((s2.withFlags { s2.flags with level := true }).startDecision).settleDoze

/-- A reference is present: a REFERENCE record that is not HELD (R175). -/
def State.referencePresent (s : State) : Bool := s.records.any fun r => r.isReference && r.state != .held

/-- The settle (R175). -/
def State.settleStation (s : State) : State :=
  if s.referencePresent then (s.startReorientation.arbitrate).settleDoze
  else
    let s1 := s.enterOrient .unoriented
    ((s1.withFlags { s1.flags with orient := true }).arbitrate).settleDoze

/-- A sample in DISTURBED: the in-window count (R173). -/
def State.sampleDisturbed (s : State) (out : Bool) : State :=
  if out then s.withOrient { s.orient with inCount := 0 }
  else if s.params.tiltFilter ≤ s.orient.inCount + 1 then s.settleStation
  else s.withOrient { s.orient with inCount := s.orient.inCount + 1 }

/-- A sample outside DISTURBED: the out-of-window count (R173). -/
def State.sampleSteady (s : State) (out : Bool) : State :=
  if out then
    if s.params.tiltFilter ≤ s.orient.outCount + 1 then s.disturb
    else s.withOrient { s.orient with outCount := s.orient.outCount + 1 }
  else s.withOrient { s.orient with outCount := 0 }

/-- TILT_SAMPLE (R173). -/
def execTiltSample (cross long : Int) (s : State) : Host.Outcome State Fault Refusal :=
  let out := outOfWindow s.params.tiltLimit cross long
  .next (if s.orient.state = .disturbed then s.sampleDisturbed out else s.sampleSteady out)

/-! ## Requests on the orientation (R180, R181) -/

/-- REORIENT is allowed (R180). -/
def State.mayReorient (s : State) : Bool :=
  (s.orient.state == .oriented || s.orient.state == .unoriented) && s.orient.outCount == 0
    && s.records.any TargetRecord.takesPart

/-- The changes of ORIENT SET before the Arbiter is told: the entries return, a REORIENT job in flight is left over (R179), the
tally goes, the offset and the state are set (R181). The filter counts change only with the state (R173). -/
def State.enterOrientedWith (s : State) (offset : Int) : State :=
  let s1 := if s.orient.state = .reorienting then s.returnReorient.leaveBehind else s
  let s2 := if s.orient.state = .oriented then s1 else s1.enterOrient .oriented
  s2.withOrient { s2.orient with offset := offset, tally := Tally.empty }

/-- ORIENT SET taken: a change of the state is a cause for the Arbiter (R52, R181, log 14). -/
def State.setOrientation (s : State) (offset : Int) : State :=
  if s.orient.state = .oriented then s.enterOrientedWith offset
  else (s.enterOrientedWith offset).arbitrate.settleDoze

end Sys2Proof.Machine
end

