-- ==== Sys2Proof/Machine/Layout.lean ====
section
/-!
DEFINITION. Layouts (spec 11, section 11.7): numbers in bytes, the CRC, the codes of names, and the bodies of the replies
(FIGURE 106, FIGURE 108, FIGURE 110).
-/

namespace Sys2Proof.Machine

open Config

/-! ## Numbers in bytes (R193) -/

/-- An unsigned value in n bytes, the most significant first. -/
def beU : Nat → Nat → List Byte
  | 0, _ => []
  | n + 1, x => BitVec.ofNat 8 (x / 256 ^ n) :: beU n x

/-- A two's complement value in n bytes. -/
def beS (n : Nat) (x : Int) : List Byte := beU n (x % (256 ^ n : Nat)).toNat

/-- A mark: 1 when set or present, 0 when clear or absent. -/
def markByte (b : Bool) : Byte := if b then 1 else 0

/-! ## The CRC (section 11.7) -/

/-- One bit of the CRC: polynomial x^16 + x^12 + x^5 + 1, the most significant bit first. -/
def crcShift (c : BitVec 16) : BitVec 16 := if c.msb then (c <<< 1) ^^^ 0x1021#16 else c <<< 1

/-- One byte enters the CRC. -/
def crcByte (c : BitVec 16) (b : Byte) : BitVec 16 :=
  let c0 := c ^^^ ((b.zeroExtend 16) <<< 8)
  crcShift (crcShift (crcShift (crcShift (crcShift (crcShift (crcShift (crcShift c0)))))))

/-- The CRC of some bytes: preset 0xFFFF, no reflection, no final inversion. -/
def crc16 (bs : List Byte) : BitVec 16 := bs.foldl crcByte 0xFFFF#16

/-! ## Codes of names (R193): from 0, in the order of the table that defines them -/

def Status.code : Status → Byte
  | .ok => 0
  | .badFrame => 1
  | .unknownRequest => 2
  | .badField => 3
  | .notFound => 4
  | .duplicate => 5
  | .tableFull => 6
  | .zoneFull => 7
  | .busyPattern => 8
  | .already => 9
  | .held => 10
  | .noJob => 11
  | .wrongMode => 12

def TargetClass.code : TargetClass → Byte
  | .static => 0
  | .reference => 1
  | .moving => 2

def RecordState.code : RecordState → Byte
  | .waiting => 0
  | .due => 1
  | .active => 2
  | .suspended => 3
  | .lost => 4
  | .held => 5

def Reason.code : Reason → Byte
  | .added => 0
  | .schedule => 1
  | .retry => 2
  | .host => 3
  | .reorient => 4

def EndReason.code : EndReason → Byte
  | .confirmed => 0
  | .displaced => 1
  | .ambiguous => 2
  | .notFound => 3
  | .yielded => 4
  | .released => 5
  | .expired => 6
  | .replaced => 7
  | .superseded => 8
  | .shadowed => 9
  | .retired => 10
  | .held => 11
  | .disturbed => 12
  | .parked => 13
  | .driveFault => 14
  | .cleared => 15

def Notify.code : Notify → Byte
  | .none => 0
  | .acquire => 1
  | .loss => 2
  | .both => 3

def StationMode.code : StationMode → Byte
  | .active => 0
  | .doze => 1
  | .parked => 2

def OrientState.code : OrientState → Byte
  | .oriented => 0
  | .disturbed => 1
  | .reorienting => 2
  | .unoriented => 3

def DriveState.code : DriveState → Byte
  | .rest => 0
  | .waking => 1
  | .ready => 2
  | .slewing => 3
  | .steering => 4
  | .fault => 5

/-- 0 for NONE, and 1 to 6 in the order of FIGURE 88. -/
def FaultCode.code : FaultCode → Byte
  | .none => 0
  | .wakeTimeout => 1
  | .moveTimeout => 2
  | .stallHz => 3
  | .stallV => 4
  | .axisHz => 5
  | .axisV => 6

def JobKind.code : JobKind → Byte
  | .visit => 0
  | .track => 1
  | .point => 2

def Phase.code : Phase → Byte
  | .wake => 0
  | .slew => 1
  | .look => 2
  | .confirm => 3
  | .search => 4
  | .dwell => 5
  | .track => 6
  | .coast => 7
  | .hold => 8

def ZoneKind.code : ZoneKind → Byte
  | .shadow => 0
  | .glare => 1

def PatternMode.code : PatternMode → Byte
  | .line => 0
  | .raster => 1
  | .stack => 2

def PatternEnd.code : PatternEnd → Byte
  | .ends => 0
  | .repeats => 1

/-! ## Reply bodies -/

def dirBytes (d : Dir) : List Byte := beS 4 d.hz ++ beS 4 d.v

def offsetBytes (o : Offset) : List Byte := beS 4 o.hz ++ beS 4 o.v

/-- A field of n bytes that reads 0 while it is absent. -/
def orZeros {α : Type} (n : Nat) (enc : α → List Byte) (x : Option α) : List Byte :=
  match x with
  | none => List.replicate n 0
  | some a => enc a

/-- The presence word of the record image: bits 0 to 10 (FIGURE 106). -/
def presenceWord (r : TargetRecord) (e : Option Entry) : Nat :=
  [r.fields.fixed?.isSome, r.fields.quantum?.isSome, r.band.isSome, r.countdown.isSome, r.confirmation.isSome,
   r.residual.isSome, r.rate.isSome, r.dueReason.isSome, r.lastEnd.isSome, e.isSome,
   (e.bind (·.deferredSince)).isSome].foldr (fun b acc => 2 * acc + (if b then 1 else 0)) 0

/-- The record image of TARGET READ, 80 bytes (FIGURE 106), with the record's Due List entry. -/
def recordImage (r : TargetRecord) (e : Option Entry) : List Byte :=
  beU 1 r.slot ++ beU 2 r.id ++ [r.fields.cls.code, r.state.code] ++ beU 1 r.level ++ beU 2 (presenceWord r e)
    ++ dirBytes r.expected
    ++ orZeros 2 (fun f => beU 2 f.tolerance) r.fields.fixed? ++ beU 2 r.gate
    ++ orZeros 4 (fun f => beU 4 f.interval) r.fields.fixed? ++ orZeros 2 (beU 2) r.fields.quantum?
    ++ orZeros 2 (fun f => beU 2 f.dwell) r.fields.fixed? ++ beU 1 r.pattern ++ [r.notify.code]
    ++ orZeros 4 (fun b => beU 2 b.lo ++ beU 2 b.hi) r.band ++ orZeros 4 (beU 4) r.countdown
    ++ orZeros 14 (fun c => dirBytes c.dir ++ beU 4 c.time.toNat ++ beU 2 c.strength) r.confirmation
    ++ orZeros 8 offsetBytes r.residual ++ orZeros 8 offsetBytes r.rate
    ++ beU 1 r.missCount ++ [r.flags.toByte]
    ++ orZeros 1 (fun x => [Reason.code x]) r.dueReason ++ orZeros 1 (fun x => [EndReason.code x]) r.lastEnd
    ++ orZeros 4 (fun x => beU 4 x.joined.toNat) e
    ++ orZeros 4 (fun x => beU 4 (BitVec.toNat x)) (e.bind (·.deferredSince))

/-- The kind and target id of a context, 3 bytes, 0 for the id of a POINT (FIGURE 110). -/
def contextBytes (c : JobContext) : List Byte := c.kind.code :: beU 2 (c.target.getD 0)

/-- The in-flight job of STATUS, 6 bytes. -/
def inFlightBytes (job : Option JobContext) : List Byte :=
  orZeros 6 (fun c => 1 :: contextBytes c ++ beU 1 c.level ++ [c.phase.code]) job

/-- A suspend slot of STATUS, 4 bytes. -/
def slotBytes (slot : Option JobContext) : List Byte := orZeros 4 (fun c => 1 :: contextBytes c) slot

/-- The axis code as STATUS shows it: 0 except with AXIS_HZ and AXIS_V (R189). -/
def Drive.shownAxisCode (d : Drive) : Byte :=
  match d.faultCode with
  | .axisHz => d.axisCode
  | .axisV => d.axisCode
  | .none => 0
  | .wakeTimeout => 0
  | .moveTimeout => 0
  | .stallHz => 0
  | .stallV => 0

/-- The body of STATUS, 34 bytes (FIGURE 110). -/
def State.statusBody (s : State) : List Byte :=
  [s.mode.code, s.orient.state.code] ++ beS 4 s.orient.offset
    ++ [s.drive.state.code, s.drive.faultCode.code, s.drive.shownAxisCode, markByte s.drive.further]
    ++ inFlightBytes s.job ++ slotBytes s.slots.s0 ++ slotBytes s.slots.s1 ++ slotBytes s.slots.s2
    ++ beU 1 (s.level 0).length ++ beU 1 (s.level 1).length ++ beU 1 (s.level 2).length ++ beU 1 (s.level 3).length
    ++ beU 1 s.records.length ++ beU 1 s.zones.length

/-- The 22 bytes of ZONE SET for a zone (FIGURE 108). -/
def zoneBytes (z : Zone) : List Byte :=
  beU 1 z.id ++ [z.kind.code] ++ beS 4 z.hzFrom ++ beS 4 z.hzTo ++ beS 4 z.vLow ++ beS 4 z.vHigh ++ beU 4 z.lifetime

/-- The body of ZONE READ, 27 bytes. -/
def zoneReadBody (z : Zone) : List Byte :=
  zoneBytes z ++ [markByte z.remaining.isSome] ++ orZeros 4 (beU 4) z.remaining

/-- The body of PATTERN READ, 39 bytes. -/
def patternBody (number : Nat) (p : Pattern) : List Byte :=
  beU 1 number ++ [p.mode.code] ++ beU 1 p.innerCount ++ beU 1 p.middleCount ++ beU 1 p.outerCount
    ++ offsetBytes p.innerStep ++ offsetBytes p.middleStep ++ offsetBytes p.outerStep ++ offsetBytes p.start
    ++ beU 1 p.framesPerProbe ++ [p.ending.code]

/-! ## Reply frames (FIGURE 104) -/

/-- The header and body of a reply. -/
def Reply.payload (r : Reply) : List Byte := [r.status.code, r.tag] ++ beU 2 r.body.length ++ r.body

/-- The whole reply frame, its CRC last. -/
def Reply.frame (r : Reply) : List Byte := r.payload ++ beU 2 (crc16 r.payload).toNat

end Sys2Proof.Machine
end

