-- ==== Sys2Proof/Machine/Port.lean ====
section
/-!
DEFINITION. The Request Port's state (R185, R186): taking a request, publishing its reply, and the status byte.
-/

namespace Sys2Proof.Machine

/-- What the owner of a request answers: the state after its act, the status and the body. -/
abbrev Answer := State × Status × List Byte

/-- A refused request changes nothing and has no body (R186). -/
def State.refuse (s : State) (status : Status) : Answer := (s, status, [])

/-- A request carried out, with the body of its OK reply. -/
def State.accept (s : State) (body : List Byte) : Answer := (s, .ok, body)

/-- The port is processing no request (R185). -/
def State.readyForRequest (s : State) : Bool := s.port.inHand.isNone

/-- The port holds a reply that has not been read out whole (R185). -/
def State.replyWaiting (s : State) : Bool := s.port.last.isSome && !s.port.readMark

/-- The status byte: bit 0 READY-FOR-REQUEST, bit 1 REPLY-WAITING (R185). -/
def State.statusByte (s : State) : Byte := byteOfBits [s.readyForRequest, s.replyWaiting]

/-- A request is in hand with the reply its owner gave; the last reply is discarded (R185, R186). -/
def Port.taking (tag : Byte) (status : Status) (body : List Byte) : Port := ⟨some ⟨status, tag, body⟩, none, false⟩

/-- A request is taken: its owner acts at this event, and its reply is kept until processing ends. While another request is
processed it is discarded and changes nothing (R186). -/
def State.takeRequest (s : State) (tag : Byte) (act : State → Answer) : State :=
  if s.port.inHand.isSome then s
  else { (act s).1 with port := Port.taking tag (act s).2.1 (act s).2.2 }

/-- Processing ends: the reply becomes the last reply, its read mark clear (R185). -/
def State.publish (s : State) : State :=
  match s.port.inHand with
  | none => s
  | some r => { s with port := ⟨none, some r, false⟩ }

/-- REPLY_PUBLISH (R185). -/
def execReplyPublish (s : State) : Host.Outcome State Fault Refusal := .next s.publish

end Sys2Proof.Machine
end

