-- ==== Sys2Proof/Machine/Targets.lean ====
section
/-!
DEFINITION. The requests on target records (spec 01) and VISIT NOW (spec 03, R65).
-/

namespace Sys2Proof.Machine

open Config

/-! ## TARGET ADD (R11, R12) -/

/-- The class fields of TARGET ADD, when exactly those of the class are given (FIGURE 12). -/
def TargetFields.classFields (f : TargetFields) (cls : TargetClass) : Option ClassFields :=
  match cls, f.tolerance, f.interval, f.dwell, f.quantum with
  | .static, some t, some i, some d, none => some (.static ⟨t, i, d⟩)
  | .reference, some t, some i, some d, none => some (.reference ⟨t, i, d⟩)
  | .moving, none, none, none, some q => some (.moving q)
  | _, _, _, _, _ => none

/-- The tolerance of a record, 0 for a MOVING one, which carries none. -/
def ClassFields.toleranceOr0 (c : ClassFields) : Nat := (c.fixed?.map (·.tolerance)).getD 0

/-- The gate is not less than the tolerance (R5, R11, R13). -/
def gateCovers (c : ClassFields) (gate : Nat) : Bool := c.toleranceOr0 ≤ gate

def bandOf (b : Nat × Nat) : Band := ⟨b.1, b.2⟩

/-- The new record of TARGET ADD in a slot, DUE with reason ADDED; none when a field is missing or not allowed (R11, R12). -/
def TargetFields.newRecord (f : TargetFields) (slot id cls : Nat) : Option TargetRecord :=
  match (classOf cls).bind (TargetFields.classFields f), f.level, f.expected, f.gate, f.pattern, f.notify.bind notifyOf with
  | some fields, some level, some expected, some gate, some pattern, some notify =>
    if gateCovers fields gate then
      some {
        slot := slot, id := id, fields := fields, state := .due, level := level, expected := expected, gate := gate
        pattern := pattern, band := f.band.map bandOf, notify := notify, countdown := none, confirmation := none
        residual := none, rate := none, missCount := 0, flags := {}, dueReason := some .added, lastEnd := none }
    else none
  | _, _, _, _, _, _ => none

/-- The free slot with the lowest number (R3). -/
def State.freeSlot (s : State) : Option Nat :=
  (List.range tableCapacity).find? fun n => !(s.records.any fun r => r.slot == n)

/-- A record takes its place in slot order. -/
def insertRecord (r : TargetRecord) : List TargetRecord → List TargetRecord
  | [] => [r]
  | x :: xs => if r.slot < x.slot then r :: x :: xs else x :: insertRecord r xs

/-- The record of TARGET ADD joins the table and the Due List, and the Arbiter acts (R12). -/
def State.addRecord (s : State) (r : TargetRecord) : State :=
  (((s.withRecords (insertRecord r s.records)).becomeDue r.id .added r.level false).arbitrate).settleDoze

/-- TARGET ADD, in the three steps of R11. -/
def reqTargetAdd (id cls : Nat) (f : TargetFields) (s : State) : Answer :=
  if ¬ (validTargetId id && TargetFields.inRange f) then s.refuse .badField
  else match TargetFields.newRecord f 0 id cls with
    | none => s.refuse .badField
    | some r =>
      if (s.find id).isSome then s.refuse .duplicate
      else match s.freeSlot with
        | none => s.refuse .tableFull
        | some slot => (s.addRecord { r with slot := slot }).accept (beU 1 slot)

/-! ## TARGET CHANGE (R13 to R17) -/

/-- The request names a field that the record's class does not carry (R13). -/
def TargetFields.foreignTo (f : TargetFields) (c : ClassFields) : Bool :=
  match c with
  | .static _ => f.quantum.isSome
  | .reference _ => f.quantum.isSome
  | .moving _ => f.tolerance.isSome || f.interval.isSome || f.dwell.isSome

/-- The class fields after the change: the new value of each field named. -/
def TargetFields.overClass (f : TargetFields) (c : ClassFields) : ClassFields :=
  let fixed (x : FixedFields) : FixedFields :=
    ⟨f.tolerance.getD x.tolerance, f.interval.getD x.interval, f.dwell.getD x.dwell⟩
  match c with
  | .static x => .static (fixed x)
  | .reference x => .reference (fixed x)
  | .moving q => .moving (f.quantum.getD q)

/-- The countdown after the change: restarted by a new interval of a WAITING record (R16, R40). -/
def TargetFields.overCountdown (f : TargetFields) (r : TargetRecord) : Option Nat :=
  match f.interval with
  | some i => if r.state = .waiting then some (i * 1000) else r.countdown
  | none => r.countdown

/-- The fields written into the record at once (R14 to R17): with a new direction the last confirmation, the residual and
the rate go. -/
def TargetFields.writeTo (f : TargetFields) (bandAbsent : Bool) (r : TargetRecord) : TargetRecord :=
  { r with
    fields := TargetFields.overClass f r.fields
    level := f.level.getD r.level
    expected := f.expected.getD r.expected
    gate := f.gate.getD r.gate
    pattern := f.pattern.getD r.pattern
    band := if bandAbsent then none else (f.band.map bandOf).or r.band
    notify := (f.notify.bind notifyOf).getD r.notify
    countdown := TargetFields.overCountdown f r
    confirmation := if f.expected.isSome then none else r.confirmation
    residual := if f.expected.isSome then none else r.residual
    rate := if f.expected.isSome then none else r.rate }

/-- The change is allowed for the record (R13). -/
def TargetFields.changeAllowed (f : TargetFields) (cls : Option Nat) (r : TargetRecord) : Bool :=
  cls.isNone && !TargetFields.foreignTo f r.fields && TargetFields.inRange f
    && gateCovers (TargetFields.overClass f r.fields) (f.gate.getD r.gate)

/-- The entry follows a new level of its record (FIGURE 13): not one that VISIT NOW gave a level, nor a REORIENT one. -/
def Entry.followsLevel (e : Entry) (level : Nat) : Bool := !e.levelGiven && e.reason != .reorient && e.level != level

/-- The entry of a DUE record after a change of level (R15, R48). -/
def State.relevelEntry (s : State) (id : Nat) (level : Option Nat) : State :=
  match level, s.entryOf id with
  | some l, some e => if e.followsLevel l then s.moveEntry id e.reason l false s.clock else s
  | _, _ => s

/-- The entry of the record has moved to a higher level: a joining entry (R48). -/
def State.entryRaised (before after : State) (id : Nat) : Bool :=
  match before.entryOf id, after.entryOf id with
  | some e, some e' => e.level < e'.level
  | _, _ => false

/-- A suspended context of a record leaves its slot without resuming, with an end reason (R63). -/
def State.dropSuspended (s : State) (id : Nat) (reason : EndReason) : State :=
  match s.slots.contexts.find? fun c => c.target == some id with
  | none => s
  | some c => (s.withSlots (s.slots.dropIf fun c => c.target == some id)).applyOutcome c reason

/-- The in-flight job is the record's (R9). -/
def State.jobIsFor (s : State) (id : Nat) : Bool := s.job.any fun c => c.target == some id

/-- A suspend slot holds a context of the record (R9). -/
def State.slotIsFor (s : State) (id : Nat) : Bool := s.slots.contexts.any fun c => c.target == some id

/-- What a new direction does to the work of the record (R17): the job in flight ends SUPERSEDED, or the suspended one. -/
def State.supersede (s : State) (id : Nat) : State :=
  if s.jobIsFor id then s.finishJob .superseded else s.dropSuspended id .superseded

/-- A TARGET CHANGE that passes (R14 to R17). One decision or preemption test follows an ended job or a joining entry. -/
def State.changeRecord (s : State) (id : Nat) (bandAbsent : Bool) (f : TargetFields) : State :=
  let s1 := s.modify id (TargetFields.writeTo f bandAbsent)
  let s2 := s1.relevelEntry id f.level
  let s3 := if f.expected.isSome then s2.supersede id else s2
  let cause := (f.expected.isSome && (s.jobIsFor id || s.slotIsFor id)) || State.entryRaised s1 s2 id
  if cause then s3.arbitrate.settleDoze else s3

/-- TARGET CHANGE (R13). A band given and named as absent at once is refused (section 11.7). -/
def reqTargetChange (id : Nat) (cls : Option Nat) (bandAbsent : Bool) (f : TargetFields) (s : State) : Answer :=
  if ¬ validTargetId id ∨ (bandAbsent ∧ f.band.isSome) then s.refuse .badField
  else match s.find id with
    | none => s.refuse .notFound
    | some r =>
      if TargetFields.changeAllowed f cls r then (s.changeRecord id bandAbsent f).accept [] else s.refuse .badField

/-! ## Requests that name one record (R4) -/

/-- A request that names a target id: BAD_FIELD outside the range, NOT_FOUND without a record, else the act on it (R4). -/
def State.onRecord (s : State) (id : Nat) (act : TargetRecord → Answer) : Answer :=
  if validTargetId id then
    match s.find id with
    | none => s.refuse .notFound
    | some r => act r
  else s.refuse .badField

/-- TARGET READ (R18). -/
def reqTargetRead (id : Nat) (s : State) : Answer :=
  s.onRecord id fun r => s.accept (recordImage r (s.entryOf id))

/-- TARGET LIST (R18). -/
def reqTargetList (s : State) : Answer :=
  s.accept (beU 1 s.records.length ++ s.records.flatMap fun r => beU 2 r.id)

/-- The record's work has reason REORIENT: its entry, or its job in flight. -/
def State.reorientWork (s : State) (id : Nat) : Bool :=
  (s.entryOf id).any (fun e => e.reason == .reorient)
    || s.job.any fun c => c.target == some id && c.reason == .reorient

/-- A reorientation may end when REORIENT work has gone (R178); a change of the state is a cause for the Arbiter (R52). -/
def State.afterReorientWork (s : State) (had : Bool) : State :=
  if had then
    let s1 := (s.returnAfter none).testReorient
    if s1.orient.state = s.orient.state then s1 else s1.arbitrate
  else s

/-- The record and every trace of it leave the table, the list, the slots and the tally (R19, R177). -/
def State.removeRecord (s : State) (id : Nat) : State :=
  let s1 := (s.withRecords (s.records.filter fun r => r.id != id)).withDue (dropEntry id s.due)
  let s2 := s1.withSlots (s.slots.dropIf fun c => c.target == some id)
  s2.withOrient { s.orient with tally := { s.orient.tally with ids := s.orient.tally.ids.filter fun x => x != id } }

/-- A record is retired (R19). -/
def State.retireRecord (s : State) (id : Nat) : State :=
  let active := s.jobIsFor id
  let s1 := if active then s.endJob .retired else s
  let s2 := s1.removeRecord id
  if active then
    (if s.reorientWork id then (s2.returnAfter none).testReorient else s2).startDecision.settleDoze
  else (s2.afterReorientWork (s.reorientWork id)).settleDoze

/-- TARGET RETIRE (R19). -/
def reqTargetRetire (id : Nat) (s : State) : Answer :=
  s.onRecord id fun _ => (s.retireRecord id).accept []

/-- The record becomes HELD: its countdown is discarded and its entry removed (R20). -/
def State.holdIdle (s : State) (id : Nat) : State :=
  (s.modify id fun r => { r.leaveDue with state := .held, countdown := none }).withDue (dropEntry id s.due)

/-- A record is held, by its state (R20). -/
def State.holdRecord (s : State) (id : Nat) (state : RecordState) : State :=
  match state with
  | .active => (s.finishJob .held).startDecision.settleDoze
  | .suspended => s.dropSuspended id .held
  | .due => ((s.holdIdle id).afterReorientWork (s.reorientWork id)).settleDoze
  | .waiting => s.holdIdle id
  | .lost => s.holdIdle id
  | .held => s

/-- TARGET HOLD (R20). -/
def reqTargetHold (id : Nat) (s : State) : Answer :=
  s.onRecord id fun r => (s.holdRecord id r.state).accept []

/-- TARGET RESUME (R21). -/
def reqTargetResume (id : Nat) (s : State) : Answer :=
  s.onRecord id fun r =>
    if r.state = .held then (((s.becomeDue id .host r.level false).arbitrate).settleDoze).accept []
    else s.refuse .wrongMode

/-- CLEAR FLAGS (R30); a subset with DEFERRED, NEWS or no flag of the record is refused first (log 30). -/
def reqClearFlags (id : Nat) (flags : Byte) (s : State) : Answer :=
  if namesFixedFlag flags then s.refuse .badField
  else s.onRecord id fun _ => (s.modify id fun r => r.withFlags fun f => f.clearNamed flags).accept []

/-! ## CHANGED LIST (R29) -/

/-- The first 16 records with NEWS, in slot order. -/
def State.changedIds (s : State) : List Nat := ((s.records.filter fun r => r.flags.news).take 16).map (·.id)

/-- The NEWS of the records listed is cleared. -/
def State.clearNews (s : State) (ids : List Nat) : State :=
  s.withRecords (s.records.map fun r =>
    if ids.contains r.id then r.withFlags fun f => { f with news := false } else r)

/-- CHANGED LIST (R29). -/
def reqChangedList (s : State) : Answer :=
  let ids := s.changedIds
  let s1 := s.clearNews ids
  s1.accept (beU 1 ids.length ++ ids.flatMap (beU 2) ++ [markByte (s1.records.any fun r => r.flags.news)])

/-! ## VISIT NOW (R65) -/

/-- The entry of a DUE record moves to the tail of the level used with reason HOST; it is stamped when the level differs
(R48, R65). A joining entry is one that rises. -/
def State.visitDue (s : State) (id : Nat) (level : Nat) (given : Bool) : State :=
  match s.entryOf id with
  | none => s
  | some e =>
    let s1 := s.moveEntry id .host level given (if e.level = level then e.joined else s.clock)
    if e.level < level then s1.arbitrate.settleDoze else s1

/-- VISIT NOW on a record, by its state (FIGURE 31). -/
def State.visitRecord (s : State) (r : TargetRecord) (level : Option Nat) : Answer :=
  let used := level.getD r.level
  match r.state with
  | .waiting => (((s.becomeDue r.id .host used level.isSome).arbitrate).settleDoze).accept []
  | .lost => (((s.becomeDue r.id .host used level.isSome).arbitrate).settleDoze).accept []
  | .due => if r.dueReason = some .reorient then s.refuse .already else (s.visitDue r.id used level.isSome).accept []
  | .active => s.refuse .already
  | .suspended => s.refuse .already
  | .held => s.refuse .held

/-- VISIT NOW (R65). -/
def reqVisitNow (id : Nat) (level : Option Nat) (s : State) : Answer :=
  if okIfGiven (· ≤ 3) level then s.onRecord id fun r => s.visitRecord r level else s.refuse .badField

end Sys2Proof.Machine
end

