-- ==== Sys2Proof/Machine/Zones.lean ====
section
/-!
DEFINITION. The Zone Table (spec 08): setting, retiring and reading a zone, and what its neighbours do at a change.
-/

namespace Sys2Proof.Machine

open Config

def State.findZone (s : State) (id : Nat) : Option Zone := s.zones.find? fun z => z.id == id

/-- The zones without one id. -/
def dropZone (id : Nat) (zones : List Zone) : List Zone := zones.filter fun z => z.id != id

/-- A zone takes its place in the order of the ids (log 21). -/
def insertZone (z : Zone) : List Zone → List Zone
  | [] => [z]
  | x :: xs => if z.id < x.id then z :: x :: xs else x :: insertZone z xs

/-! ## What the neighbours do (R105, R151, R152) -/

/-- The Job Engine is told that a zone has gone: a search in WAITING tests its first probe (R105). -/
def State.wakeWaitingSearch (s : State) : State :=
  match s.job with
  | none => s
  | some c =>
    match c.phase, c.search with
    | .search, some st =>
      if st.stage = .waiting then
        s.placeProbe c (({ st with passSlewed := false } : SearchState).test s.skips)
      else s
    | _, _ => s

/-- The job ends SHADOWED, and the decision of its end follows (R152, R62). -/
def State.shadowJob (s : State) : State := (s.finishJob .shadowed).startDecision

/-- The in-flight job is tested against the SHADOW zone added (R152, FIGURE 78): a job in TRACK whose prediction that zone
covers enters COAST (FIGURE 71), and its mark is left as it stands when the zone does not cover it. -/
def State.testAgainstZone (s : State) (z : Zone) : State :=
  match s.job with
  | none => s
  | some c =>
    match c.kind, c.phase, c.origin with
    | .point, _, _ => s
    | _, .wake, _ => if z.contains c.aim then s.shadowJob else s
    | _, .slew, _ => if z.contains c.aim then s.shadowJob else s
    | _, .look, _ => if z.contains c.aim then s.shadowJob else s
    | _, .confirm, some .look => if z.contains c.aim then s.shadowJob else s
    | _, .confirm, _ => s
    | _, .search, _ => s
    | _, .dwell, _ => s
    | _, .track, _ => if z.contains (s.predicted c) then (s.enterCoast c).decideIfIdle else s
    | _, .coast, _ => s
    | _, .hold, _ => s

/-- The shadow test of R138 at a SHADOW zone set or replaced, for a job that stays in TRACK (FIGURE 71): a prediction inside an
active SHADOW zone sets the mark, and outside every one the mark is unchanged (log 10). -/
def State.testShadowMark (s : State) : State :=
  match s.job with
  | none => s
  | some c =>
    if c.phase = .track ∧ inZones s.zones .shadow (s.predicted c) then s.withJob (some { c with shadowMark := true }) else s

/-- A zone has gone (R154, R155): the Job Engine, then the Arbiter. -/
def State.zoneGone (s : State) : State :=
  ((s.wakeWaitingSearch).arbitrate).settleDoze

/-! ## ZONE SET (R150, R151) -/

/-- The table with the zone in it, the old one of its id replaced. -/
def State.placeZone (s : State) (z : Zone) : State := s.withZones (insertZone z (dropZone z.id s.zones))

/-- ZONE SET that passes: the three steps of R151, the test of R138 after that of R152. -/
def State.setZone (s : State) (z : Zone) : State :=
  let replaced := (s.findZone z.id).isSome
  let s1 := s.placeZone z
  let s2 := if replaced then s1.wakeWaitingSearch else s1
  let s3 := match z.kind with
    | .shadow => (s2.testAgainstZone z).testShadowMark
    | .glare => s2
  (if replaced then s3.arbitrate else s3).settleDoze

/-- ZONE SET (R150). -/
def reqZoneSet (f : ZoneFields) (s : State) : Answer :=
  match ZoneFields.toZone f with
  | none => s.refuse .badField
  | some z =>
    if (s.findZone z.id).isNone ∧ zoneCapacity ≤ s.zones.length then s.refuse .zoneFull
    else (s.setZone z).accept []

/-- A request that names a zone id (R154, R156). -/
def State.onZone (s : State) (id : Nat) (act : Zone → Answer) : Answer :=
  if validZoneId id then
    match s.findZone id with
    | none => s.refuse .notFound
    | some z => act z
  else s.refuse .badField

/-- A zone is removed and its neighbours are told (R154). -/
def State.removeZone (s : State) (id : Nat) : State := (s.withZones (dropZone id s.zones)).zoneGone

/-- ZONE RETIRE (R154). -/
def reqZoneRetire (id : Nat) (s : State) : Answer := s.onZone id fun _ => (s.removeZone id).accept []

/-- ZONE READ (R156). -/
def reqZoneRead (id : Nat) (s : State) : Answer := s.onZone id fun z => s.accept (zoneReadBody z)

/-- ZONE_LIFETIME_EXPIRY: the zone is removed, ZONE is set, and the neighbours are told (R155); an id without a running
lifetime changes nothing (log 2). -/
def execZoneLifetimeExpiry (id : Nat) (s : State) : Host.Outcome State Fault Refusal :=
  if (s.findZone id).any (fun z => z.remaining.isSome) then
    .next ((s.withFlags { s.flags with zone := true }).removeZone id)
  else .next s

end Sys2Proof.Machine
end

