-- ==== Sys2Proof/Machine/Pointing.lean ====
section
/-!
DEFINITION. POINT and RELEASE (spec 04, R90 to R93), the patterns (spec 05, R97, R99) and the station mode (spec 03, R66 to
R68).
-/

namespace Sys2Proof.Machine

open Config

/-! ## POINT (R90) -/

/-- The in-flight job is the POINT. -/
def State.pointInFlight (s : State) : Bool := s.job.any fun c => c.kind == .point

/-- A suspend slot holds the POINT. -/
def State.pointSuspended (s : State) : Bool := s.slots.contexts.any fun c => c.kind == .point

/-- The POINT that exists ends REPLACED, wherever it stands (FIGURE 45). -/
def State.replacePoint (s : State) : State :=
  let s1 := if s.pointInFlight then s.endJob .replaced else s
  (s1.withDue (dropPoint s1.due)).withSlots (s1.slots.dropIf fun c => c.kind == .point)

/-- The new POINT entry joins its level, and the Arbiter acts (R90). -/
def State.joinPoint (s : State) (aim : Dir) (level hold : Nat) : State :=
  ((s.withDue (dueInsert (s.freshEntry (.point aim hold) level .host false) s.due)).arbitrate).settleDoze

/-- The values of POINT lie in their ranges (R90). -/
def pointInRange (aim : Dir) (level hold : Nat) : Bool := validDir aim && level ≤ 3 && hold ≤ 600000

/-- POINT (R90). -/
def reqPoint (aim : Dir) (level hold : Nat) (s : State) : Answer :=
  if pointInRange aim level hold then (s.replacePoint.joinPoint aim level hold).accept [] else s.refuse .badField

/-! ## RELEASE (R92) -/

/-- The in-flight VISIT job of the record is in DWELL. -/
def State.dwellsOn (s : State) (id : Nat) : Bool :=
  s.job.any fun c => c.kind == .visit && c.target == some id && c.phase == .dwell

/-- The reason the job in flight ends with when its dwell is over (R84). -/
def State.foundEnd (s : State) : EndReason := (s.job.map JobContext.foundReason).getD .confirmed

/-- The DWELL in flight ends with its found outcome, and the decision of the end follows (R84, R92). -/
def State.endDwell (s : State) : State := ((s.finishJob s.foundEnd).startDecision).settleDoze

/-- RELEASE with a target id (R92). An id that no record carries is answered NO_JOB, as R92 has it, and not NOT_FOUND (R4):
the model's choice (log 32). -/
def State.releaseVisit (s : State) (id : Nat) : Answer :=
  if s.dwellsOn id then s.endDwell.accept [s.foundEnd.code] else s.refuse .noJob

/-- RELEASE without a target id (FIGURE 46). -/
def State.releasePoint (s : State) : Answer :=
  if s.job.any (fun c => c.kind == .point && c.phase == .hold) then
    (((s.finishJob .released).startDecision).settleDoze).accept [EndReason.released.code]
  else if s.pointWaits then (s.withDue (dropPoint s.due)).accept [EndReason.released.code]
  else if s.pointSuspended then
    (s.withSlots (s.slots.dropIf fun c => c.kind == .point)).accept [EndReason.released.code]
  else s.refuse .noJob

/-- RELEASE (R92). -/
def reqRelease (id : Option Nat) (s : State) : Answer :=
  match id with
  | none => s.releasePoint
  | some id => if validTargetId id then s.releaseVisit id else s.refuse .badField

/-! ## Patterns (R97, R99) -/

/-- A context in SEARCH, or in flight in a CONFIRM entered from SEARCH, uses its pattern (R97). -/
def JobContext.usesInFlight (c : JobContext) (n : Nat) : Bool :=
  c.patternNumber == n && (c.phase == .search || (c.phase == .confirm && c.origin == some .search))

/-- A suspended context uses its pattern in SEARCH (R97). -/
def JobContext.usesSuspended (c : JobContext) (n : Nat) : Bool := c.patternNumber == n && c.phase == .search

/-- A search is using the pattern (R97). -/
def State.patternBusy (s : State) (n : Nat) : Bool :=
  s.job.any (fun c => c.usesInFlight n) || s.slots.contexts.any fun c => c.usesSuspended n

/-- PATTERN LOAD (R97). -/
def reqPatternLoad (n : Nat) (f : PatternFields) (s : State) : Answer :=
  if n < patternCount then
    match PatternFields.toPattern f with
    | none => s.refuse .badField
    | some p =>
      if s.patternBusy n then s.refuse .busyPattern else ({ s with patterns := s.patterns.set n p } : State).accept []
  else s.refuse .badField

/-- PATTERN READ (R99). -/
def reqPatternRead (n : Nat) (s : State) : Answer :=
  if n < patternCount then s.accept (patternBody n (s.pattern n)) else s.refuse .badField

/-! ## The station mode (R66 to R68, R169, R170) -/

/-- The park is commanded (R67, R169, R170): a drive in REST or FAULT stays; else the park is pending, a READY drive starts
its slew, and a park slew whose purpose was taken away gets it back. -/
def State.park (s : State) : State :=
  match s.drive.state with
  | .rest => s
  | .fault => s
  | .slewing =>
    s.withDrive { s.drive with
      parkPending := true, purpose := if s.drive.purpose = .none then .park else s.drive.purpose }
  | .waking => s.withDrive { s.drive with parkPending := true }
  | .ready => (s.withDrive { s.drive with parkPending := true }).parkIfPending
  | .steering => s.withDrive { s.drive with parkPending := true }

/-- Entry into PARKED, in the order of R67, with the Orientation Unit's test of a reorientation that ends with the job
(R178), then the one decision of R51, which starts nothing. -/
def State.enterParked (s : State) : State :=
  let s1 := ((({ s with mode := .parked } : State).haltAll .parked).returnAfter s.job).testReorient
  (((s1.sensorSwitchOff).park).startDecision).settleDoze

/-- The park is given up when the mode leaves PARKED (R170). -/
def Drive.unpark (d : Drive) : Drive :=
  { d with parkPending := false, purpose := if d.purpose = .park then .none else d.purpose }

/-- Entry into ACTIVE or DOZE (R68, R170): the Arbiter decides, or tests for preemption (log 16). -/
def State.enterWorking (s : State) (mode : StationMode) : State :=
  let d := if s.mode = .parked then s.drive.unpark else s.drive
  ((({ s with mode := mode } : State).withDrive d).arbitrate).settleDoze

/-- STATION MODE with a mode of the three (R66). -/
def State.selectMode (s : State) (mode : StationMode) : State :=
  if s.mode = mode then s
  else match mode with
    | .parked => s.enterParked
    | .active => s.enterWorking .active
    | .doze => s.enterWorking .doze

/-- STATION MODE (R66). -/
def reqStationMode (mode : Nat) (s : State) : Answer :=
  match stationModeOf mode with
  | none => s.refuse .badField
  | some m => (s.selectMode m).accept []

end Sys2Proof.Machine
end

