-- ==== Sys2Proof/Machine/General.lean ====
section
/-!
DEFINITION. The requests of the Request Port, the Site Clock, the Orientation Unit, the Axis Drive Controller and the
Attention Unit (spec 02, 09, 10, 11).
-/

namespace Sys2Proof.Machine

open Config

/-! ## IDENTIFY and CONFIGURE (R187, R188) -/

/-- The value of an item (FIGURE 100), 0 for an unknown one. -/
def identifyValue : Nat → Nat
  | 0 => 0x2240
  | 1 => 3
  | 2 => tableCapacity
  | 3 => zoneCapacity
  | 4 => patternCount
  | 5 => 4
  | 6 => 4
  | _ => 0

/-- IDENTIFY (R187). -/
def reqIdentify (item : Nat) (s : State) : Answer := s.accept (beU 2 (identifyValue item))

/-- No parameter number appears twice. -/
def pairsDistinct (pairs : List (Nat × Nat)) : Bool := (pairs.map (·.1)).Nodup

/-- A LOST record after a change of LOST_RETRY (FIGURE 18). -/
def TargetRecord.afterRetryChange (old new : Nat) (r : TargetRecord) : TargetRecord :=
  if r.state ≠ .lost then r
  else if old = 0 ∧ new ≠ 0 then { r with countdown := some (new * 1000) }
  else if old ≠ 0 ∧ new = 0 then { r with countdown := none }
  else r

/-- Every value given is written, and a change of LOST_RETRY acts on the LOST records at once (R188, R41). -/
def State.configure (s : State) (pairs : List (Nat × Nat)) : State :=
  let p := pairs.foldl setParam s.params
  { s with params := p, records := s.records.map (TargetRecord.afterRetryChange s.params.lostRetry p.lostRetry) }

/-- CONFIGURE (R188). -/
def reqConfigure (pairs : List (Nat × Nat)) (s : State) : Answer :=
  if pairs.length ≤ 17 ∧ pairs.all pairInRange ∧ pairsDistinct pairs then (s.configure pairs).accept []
  else s.refuse .badField

/-- READ CONFIGURATION (R188). -/
def reqReadConfiguration (s : State) : Answer := s.accept ((paramValues s.params).flatMap (beU 4))

/-- STATUS (R189). -/
def reqStatus (s : State) : Answer := s.accept s.statusBody

/-! ## CLEAR STATION (R190) -/

/-- Steps 1 and 2: the job and the contexts end CLEARED with a stop request, and the records and entries go (log 9). -/
def State.clearWork (s : State) : State :=
  let s1 := (s.haltAll .cleared).stopRequest
  (s1.withRecords []).withDue []

/-- Step 5: REORIENTING becomes UNORIENTED, and the tally goes (R183). -/
def State.clearOrient (s : State) : State :=
  let s1 := if s.orient.state = .reorienting then s.enterOrient .unoriented else s
  s1.withOrient { s1.orient with tally := Tally.empty }

/-- The six steps of CLEAR STATION, then the one decision of R51, which starts nothing (R190). -/
def State.clearStation (s : State) : State :=
  let s1 := ({ s.clearWork with zones := [], patterns := resetPatterns, mode := .parked } : State)
  let s2 := ((s1.park).sensorSwitchOff).clearOrient
  ((s2.withFlags {}).startDecision).settleDoze

/-- CLEAR STATION (R190). -/
def reqClearStation (s : State) : Answer := s.clearStation.accept []

/-! ## The Site Clock (R43, R44) -/

/-- CLOCK READ (R43). -/
def reqClockRead (s : State) : Answer := s.accept (beU 4 s.clock.toNat)

/-- CLOCK SET (R44). -/
def reqClockSet (time : SiteTime) (s : State) : Answer := ({ s with clock := time } : State).accept []

/-! ## Orientation and drive (R168, R180, R181) -/

/-- REORIENT (R180). -/
def reqReorient (s : State) : Answer :=
  if s.mayReorient then ((s.startReorientation.arbitrate).settleDoze).accept [] else s.refuse .wrongMode

/-- ORIENT SET (R181). -/
def reqOrientSet (offset : Int) (s : State) : Answer :=
  if -halfTurn ≤ offset ∧ offset < halfTurn then
    if s.orient.state = .disturbed then s.refuse .wrongMode else (s.setOrientation offset).accept []
  else s.refuse .badField

/-- DRIVE RESET (R168). -/
def reqDriveReset (s : State) : Answer :=
  if s.drive.state = .fault then s.resetDrive.accept [] else s.refuse .wrongMode

/-! ## Attention (R192) -/

/-- ATTENTION READ (R192). -/
def reqAttentionRead (s : State) : Answer := s.accept [s.flags.toByte, s.mask.toByte]

/-- ATTENTION CLEAR (R192). -/
def reqAttentionClear (flags : Byte) (s : State) : Answer :=
  (s.withFlags (s.flags.clear (Attention.ofByte flags))).accept []

/-- ATTENTION MASK (R192). -/
def reqAttentionMask (mask : Byte) (s : State) : Answer := ({ s with mask := Attention.ofByte mask } : State).accept []

end Sys2Proof.Machine
end

