-- ==== Sys2Proof/Machine/Requests.lean ====
section
/-!
DEFINITION. The 31 requests as commands: each is taken by the port (R185, R186) and acted on by its owner.
-/

namespace Sys2Proof.Machine

/-- IDENTIFY. -/
def execIdentify (tag : Byte) (item : Nat) (s : State) : Host.Outcome State Fault Refusal :=
  .next (s.takeRequest tag (reqIdentify item))

/-- CONFIGURE. -/
def execConfigure (tag : Byte) (pairs : List (Nat × Nat)) (s : State) : Host.Outcome State Fault Refusal :=
  .next (s.takeRequest tag (reqConfigure pairs))

/-- READ_CONFIGURATION. -/
def execReadConfiguration (tag : Byte) (s : State) : Host.Outcome State Fault Refusal :=
  .next (s.takeRequest tag reqReadConfiguration)

/-- STATUS. -/
def execStatus (tag : Byte) (s : State) : Host.Outcome State Fault Refusal :=
  .next (s.takeRequest tag reqStatus)

/-- CLEAR_STATION. -/
def execClearStation (tag : Byte) (s : State) : Host.Outcome State Fault Refusal :=
  .next (s.takeRequest tag reqClearStation)

/-- TARGET_ADD. -/
def execTargetAdd (tag : Byte) (id : Nat) (cls : Nat) (fields : TargetFields) (s : State) : Host.Outcome State Fault Refusal :=
  .next (s.takeRequest tag (reqTargetAdd id cls fields))

/-- TARGET_CHANGE. -/
def execTargetChange (tag : Byte) (id : Nat) (cls : Option Nat) (bandAbsent : Bool) (fields : TargetFields) (s : State) : Host.Outcome State Fault Refusal :=
  .next (s.takeRequest tag (reqTargetChange id cls bandAbsent fields))

/-- TARGET_READ. -/
def execTargetRead (tag : Byte) (id : Nat) (s : State) : Host.Outcome State Fault Refusal :=
  .next (s.takeRequest tag (reqTargetRead id))

/-- TARGET_RETIRE. -/
def execTargetRetire (tag : Byte) (id : Nat) (s : State) : Host.Outcome State Fault Refusal :=
  .next (s.takeRequest tag (reqTargetRetire id))

/-- TARGET_HOLD. -/
def execTargetHold (tag : Byte) (id : Nat) (s : State) : Host.Outcome State Fault Refusal :=
  .next (s.takeRequest tag (reqTargetHold id))

/-- TARGET_RESUME. -/
def execTargetResume (tag : Byte) (id : Nat) (s : State) : Host.Outcome State Fault Refusal :=
  .next (s.takeRequest tag (reqTargetResume id))

/-- TARGET_LIST. -/
def execTargetList (tag : Byte) (s : State) : Host.Outcome State Fault Refusal :=
  .next (s.takeRequest tag reqTargetList)

/-- CLEAR_FLAGS. -/
def execClearFlags (tag : Byte) (id : Nat) (flags : Byte) (s : State) : Host.Outcome State Fault Refusal :=
  .next (s.takeRequest tag (reqClearFlags id flags))

/-- CHANGED_LIST. -/
def execChangedList (tag : Byte) (s : State) : Host.Outcome State Fault Refusal :=
  .next (s.takeRequest tag reqChangedList)

/-- VISIT_NOW. -/
def execVisitNow (tag : Byte) (id : Nat) (level : Option Nat) (s : State) : Host.Outcome State Fault Refusal :=
  .next (s.takeRequest tag (reqVisitNow id level))

/-- ZONE_SET. -/
def execZoneSet (tag : Byte) (zone : ZoneFields) (s : State) : Host.Outcome State Fault Refusal :=
  .next (s.takeRequest tag (reqZoneSet zone))

/-- ZONE_RETIRE. -/
def execZoneRetire (tag : Byte) (id : Nat) (s : State) : Host.Outcome State Fault Refusal :=
  .next (s.takeRequest tag (reqZoneRetire id))

/-- ZONE_READ. -/
def execZoneRead (tag : Byte) (id : Nat) (s : State) : Host.Outcome State Fault Refusal :=
  .next (s.takeRequest tag (reqZoneRead id))

/-- PATTERN_LOAD. -/
def execPatternLoad (tag : Byte) (number : Nat) (fields : PatternFields) (s : State) : Host.Outcome State Fault Refusal :=
  .next (s.takeRequest tag (reqPatternLoad number fields))

/-- PATTERN_READ. -/
def execPatternRead (tag : Byte) (number : Nat) (s : State) : Host.Outcome State Fault Refusal :=
  .next (s.takeRequest tag (reqPatternRead number))

/-- POINT. -/
def execPoint (tag : Byte) (aim : Dir) (level : Nat) (hold : Nat) (s : State) : Host.Outcome State Fault Refusal :=
  .next (s.takeRequest tag (reqPoint aim level hold))

/-- RELEASE. -/
def execRelease (tag : Byte) (id : Option Nat) (s : State) : Host.Outcome State Fault Refusal :=
  .next (s.takeRequest tag (reqRelease id))

/-- STATION_MODE. -/
def execStationMode (tag : Byte) (mode : Nat) (s : State) : Host.Outcome State Fault Refusal :=
  .next (s.takeRequest tag (reqStationMode mode))

/-- CLOCK_READ. -/
def execClockRead (tag : Byte) (s : State) : Host.Outcome State Fault Refusal :=
  .next (s.takeRequest tag reqClockRead)

/-- CLOCK_SET. -/
def execClockSet (tag : Byte) (time : SiteTime) (s : State) : Host.Outcome State Fault Refusal :=
  .next (s.takeRequest tag (reqClockSet time))

/-- REORIENT. -/
def execReorient (tag : Byte) (s : State) : Host.Outcome State Fault Refusal :=
  .next (s.takeRequest tag reqReorient)

/-- ORIENT_SET. -/
def execOrientSet (tag : Byte) (offset : Int) (s : State) : Host.Outcome State Fault Refusal :=
  .next (s.takeRequest tag (reqOrientSet offset))

/-- DRIVE_RESET. -/
def execDriveReset (tag : Byte) (s : State) : Host.Outcome State Fault Refusal :=
  .next (s.takeRequest tag reqDriveReset)

/-- ATTENTION_READ. -/
def execAttentionRead (tag : Byte) (s : State) : Host.Outcome State Fault Refusal :=
  .next (s.takeRequest tag reqAttentionRead)

/-- ATTENTION_CLEAR. -/
def execAttentionClear (tag : Byte) (flags : Byte) (s : State) : Host.Outcome State Fault Refusal :=
  .next (s.takeRequest tag (reqAttentionClear flags))

/-- ATTENTION_MASK. -/
def execAttentionMask (tag : Byte) (mask : Byte) (s : State) : Host.Outcome State Fault Refusal :=
  .next (s.takeRequest tag (reqAttentionMask mask))

end Sys2Proof.Machine
end

