-- ==== Sys2Proof/Machine/Link.lean ====
section
/-!
DEFINITION. The SPI link (spec 11, sections 11.1 and 11.7): request frames and their form, WRITE, READ, and the release of
RESET#.
-/

namespace Sys2Proof.Machine

open Config

/-! ## Request bodies (FIGURE 108, FIGURE 109) -/

/-- What steps 2 and 3 of R186 make of a frame. -/
inductive Parsed where
  | unknown
  | badForm
  | request (i : Instr)
  deriving DecidableEq, Repr

/-- A request whose body has the form called for. -/
def formed (ok : Bool) (i : Instr) : Parsed := if ok then .request i else .badForm

/-- A field that is given when its bit is set. -/
def ifGiven {α : Type} (given : Bool) (x : α) : Option α := if given then some x else none

def readDir (bs : List Byte) (off : Nat) : Dir := ⟨readS bs off 4, readS bs (off + 4) 4⟩

def readOffset (bs : List Byte) (off : Nat) : Offset := ⟨readS bs off 4, readS bs (off + 4) 4⟩

/-- The field word of a target body (FIGURE 109). -/
def fieldWord (b : List Byte) : Nat := readU b 3 2

/-- The fields that a target body gives (FIGURE 109). -/
def readTargetFields (b : List Byte) : TargetFields :=
  let given := (fieldWord b).testBit
  { level := ifGiven (given 0) (readU b 5 1)
    expected := ifGiven (given 1) (readDir b 6)
    tolerance := ifGiven (given 2) (readU b 14 2)
    gate := ifGiven (given 3) (readU b 16 2)
    interval := ifGiven (given 4) (readU b 18 4)
    quantum := ifGiven (given 5) (readU b 22 2)
    dwell := ifGiven (given 6) (readU b 24 2)
    pattern := ifGiven (given 7) (readU b 26 1)
    band := ifGiven (given 8) (readU b 27 2, readU b 29 2)
    notify := ifGiven (given 9) (readU b 31 1) }

/-- The form of TARGET ADD: 32 bytes, bits 10 to 15 of the field word clear (section 11.7). -/
def targetAddForm (b : List Byte) : Bool := b.length == 32 && fieldWord b < 1024

/-- The form of TARGET CHANGE: 32 bytes, bits 12 to 15 clear, bits 8 and 10 not both set (section 11.7). -/
def targetChangeForm (b : List Byte) : Bool :=
  b.length == 32 && fieldWord b < 4096 && !((fieldWord b).testBit 8 && (fieldWord b).testBit 10)

/-- The pairs of CONFIGURE: a number of 1 byte and a value of 4 bytes each. -/
def readPairs (b : List Byte) : List (Nat × Nat) :=
  (List.range (b.length / 5)).map fun k => (readU b (5 * k) 1, readU b (5 * k + 1) 4)

def readZoneFields (b : List Byte) : ZoneFields :=
  ⟨readU b 0 1, readU b 1 1, readS b 2 4, readS b 6 4, readS b 10 4, readS b 14 4, readU b 18 4⟩

def readPatternFields (b : List Byte) : PatternFields where
  mode := readU b 1 1
  innerCount := readU b 2 1
  middleCount := readU b 3 1
  outerCount := readU b 4 1
  innerStep := readOffset b 5
  middleStep := readOffset b 13
  outerStep := readOffset b 21
  start := readOffset b 29
  framesPerProbe := readU b 37 1
  ending := readU b 38 1

/-- The byte at an offset. -/
def byteAt (b : List Byte) (off : Nat) : Byte := b.getD off 0

/-- Steps 2 and 3 of R186: the request of a code, a tag and a body (FIGURE 105, FIGURE 108). -/
def parseRequest (code : Nat) (tag : Byte) (b : List Byte) : Parsed :=
  match code with
  | 0x01 => formed (b.length == 1) (.identify tag (readU b 0 1))
  | 0x02 => formed (b.length % 5 == 0 && b.length ≤ 85) (.configure tag (readPairs b))
  | 0x03 => formed (b.length == 0) (.readConfiguration tag)
  | 0x04 => formed (b.length == 0) (.status tag)
  | 0x05 => formed (b.length == 0) (.clearStation tag)
  | 0x10 => formed (targetAddForm b) (.targetAdd tag (readU b 0 2) (readU b 2 1) (readTargetFields b))
  | 0x11 =>
    formed (targetChangeForm b)
      (.targetChange tag (readU b 0 2) (ifGiven ((fieldWord b).testBit 11) (readU b 2 1)) ((fieldWord b).testBit 10)
        (readTargetFields b))
  | 0x12 => formed (b.length == 2) (.targetRead tag (readU b 0 2))
  | 0x13 => formed (b.length == 2) (.targetRetire tag (readU b 0 2))
  | 0x14 => formed (b.length == 2) (.targetHold tag (readU b 0 2))
  | 0x15 => formed (b.length == 2) (.targetResume tag (readU b 0 2))
  | 0x16 => formed (b.length == 0) (.targetList tag)
  | 0x17 => formed (b.length == 3 && (byteAt b 2).toNat < 64) (.clearFlags tag (readU b 0 2) (byteAt b 2))
  | 0x18 => formed (b.length == 0) (.changedList tag)
  | 0x19 =>
    formed (b.length == 2 || b.length == 3) (.visitNow tag (readU b 0 2) (ifGiven (b.length == 3) (readU b 2 1)))
  | 0x20 => formed (b.length == 22) (.zoneSet tag (readZoneFields b))
  | 0x21 => formed (b.length == 1) (.zoneRetire tag (readU b 0 1))
  | 0x22 => formed (b.length == 1) (.zoneRead tag (readU b 0 1))
  | 0x28 => formed (b.length == 39) (.patternLoad tag (readU b 0 1) (readPatternFields b))
  | 0x29 => formed (b.length == 1) (.patternRead tag (readU b 0 1))
  | 0x30 => formed (b.length == 13) (.point tag (readDir b 0) (readU b 8 1) (readU b 9 4))
  | 0x31 => formed (b.length == 0 || b.length == 2) (.release tag (ifGiven (b.length == 2) (readU b 0 2)))
  | 0x38 => formed (b.length == 1) (.stationMode tag (readU b 0 1))
  | 0x40 => formed (b.length == 0) (.clockRead tag)
  | 0x41 => formed (b.length == 4) (.clockSet tag (BitVec.ofNat 32 (readU b 0 4)))
  | 0x48 => formed (b.length == 0) (.reorient tag)
  | 0x49 => formed (b.length == 4) (.orientSet tag (readS b 0 4))
  | 0x50 => formed (b.length == 0) (.driveReset tag)
  | 0x58 => formed (b.length == 0) (.attentionRead tag)
  | 0x59 => formed (b.length == 1) (.attentionClear tag (byteAt b 0))
  | 0x5A => formed (b.length == 1) (.attentionMask tag (byteAt b 0))
  | _ => .unknown

/-! ## Routing (R186) -/

/-- The tag and the owner's act of a request; none for a command that is no request (step 4 of R186). -/
def requestAct (i : Instr) : Option (Byte × (State → Answer)) :=
  match i with
  | .identify tag item => some (tag, reqIdentify item)
  | .configure tag pairs => some (tag, reqConfigure pairs)
  | .readConfiguration tag => some (tag, reqReadConfiguration)
  | .status tag => some (tag, reqStatus)
  | .clearStation tag => some (tag, reqClearStation)
  | .targetAdd tag id cls fields => some (tag, reqTargetAdd id cls fields)
  | .targetChange tag id cls bandAbsent fields => some (tag, reqTargetChange id cls bandAbsent fields)
  | .targetRead tag id => some (tag, reqTargetRead id)
  | .targetRetire tag id => some (tag, reqTargetRetire id)
  | .targetHold tag id => some (tag, reqTargetHold id)
  | .targetResume tag id => some (tag, reqTargetResume id)
  | .targetList tag => some (tag, reqTargetList)
  | .clearFlags tag id flags => some (tag, reqClearFlags id flags)
  | .changedList tag => some (tag, reqChangedList)
  | .visitNow tag id level => some (tag, reqVisitNow id level)
  | .zoneSet tag zone => some (tag, reqZoneSet zone)
  | .zoneRetire tag id => some (tag, reqZoneRetire id)
  | .zoneRead tag id => some (tag, reqZoneRead id)
  | .patternLoad tag number fields => some (tag, reqPatternLoad number fields)
  | .patternRead tag number => some (tag, reqPatternRead number)
  | .point tag aim level hold => some (tag, reqPoint aim level hold)
  | .release tag id => some (tag, reqRelease id)
  | .stationMode tag mode => some (tag, reqStationMode mode)
  | .clockRead tag => some (tag, reqClockRead)
  | .clockSet tag time => some (tag, reqClockSet time)
  | .reorient tag => some (tag, reqReorient)
  | .orientSet tag offset => some (tag, reqOrientSet offset)
  | .driveReset tag => some (tag, reqDriveReset)
  | .attentionRead tag => some (tag, reqAttentionRead)
  | .attentionClear tag flags => some (tag, reqAttentionClear flags)
  | .attentionMask tag mask => some (tag, reqAttentionMask mask)
  | _ => none

/-- The frame passes step 1 of R186: lengths and CRC. -/
def frameOk (f : List Byte) : Bool :=
  6 ≤ f.length && readU f 2 2 ≤ 512 && f.length == 6 + readU f 2 2
    && readU f (4 + readU f 2 2) 2 == (crc16 (f.take (4 + readU f 2 2))).toNat

/-- The tag a reply echoes: 0 for a frame of fewer than 2 bytes (R186). -/
def frameTag (f : List Byte) : Byte := byteAt f 1

/-- The frame of a WRITE is taken: the four steps of R186. -/
def State.takeFrame (s : State) (f : List Byte) : State :=
  if frameOk f then
    match parseRequest (readU f 0 1) (frameTag f) (fieldAt f 4 (readU f 2 2)) with
    | .unknown => s.takeRequest (frameTag f) fun s => s.refuse .unknownRequest
    | .badForm => s.takeRequest (frameTag f) fun s => s.refuse .badField
    | .request i =>
      match requestAct i with
      | none => s
      | some (tag, act) => s.takeRequest tag act
  else s.takeRequest (frameTag f) fun s => s.refuse .badFrame

/-! ## Transactions (R184 to R186) -/

/-- The kinds of a transaction (FIGURE 97). -/
inductive TransactionKind where
  | write
  | read
  | poll
  deriving DecidableEq, Repr

/-- The host's first byte selects the kind: 0xA1 a WRITE, 0xA2 a READ, any other value a POLL (FIGURE 97). -/
def transactionKind (first : Byte) : TransactionKind :=
  if first = 0xA1 then .write else if first = 0xA2 then .read else .poll

/-- The bytes a READ shifts out after the status byte, for n whole bytes clocked (R185). -/
def State.readBytes (s : State) (n : Nat) : List Byte :=
  match s.port.inHand, s.port.last with
  | none, some r => r.frame.take n ++ List.replicate (n - r.frame.length) 0
  | _, _ => List.replicate n 0

/-- The read mark after a READ of n whole bytes: set when the whole frame has been clocked out (R185). -/
def State.readMarkAfter (s : State) (n : Nat) : Bool :=
  match s.port.inHand, s.port.last with
  | none, some r => s.port.readMark || r.frame.length ≤ n
  | _, _ => s.port.readMark

/-- A WRITE: the status byte at the fall of CS#; processing may end between the fall and the rise; the frame is taken at the
rise (R185, R186, log 5). -/
def State.writeTransaction (s : State) (frame : List Byte) (published : Bool) : State :=
  { (if published then s.publish else s).takeFrame frame with spiOut := [s.statusByte] }

/-- A READ of n whole bytes: the status byte, then the last reply or zeros (R185). -/
def State.readTransaction (s : State) (n : Nat) : State :=
  { s with
    spiOut := s.statusByte :: s.readBytes n
    port := { s.port with readMark := s.readMarkAfter n } }

/-- A POLL: the status byte is all the host gets, and nothing changes (FIGURE 97). -/
def State.pollTransaction (s : State) : State := { s with spiOut := [s.statusByte] }

/-- A transaction by the host's first byte (R184, FIGURE 97): frame is what the host shifts in after it, n the whole bytes
clocked after it, published whether processing ends between the fall and the rise of CS#. -/
def State.transact (s : State) (first : Byte) (frame : List Byte) (n : Nat) (published : Bool) : State :=
  match transactionKind first with
  | .write => s.writeTransaction frame published
  | .read => s.readTransaction n
  | .poll => s.pollTransaction

/-- WRITE: a transaction whose first byte is 0xA1. A byte that was cut off is dropped (R185, log 5). -/
def execWrite (frame : List Byte) (_cut : Nat) (published : Bool) (s : State) : Host.Outcome State Fault Refusal :=
  .next (s.transact 0xA1 frame 0 published)

/-- READ: a transaction whose first byte is 0xA2. -/
def execRead (clocks : Nat) (s : State) : Host.Outcome State Fault Refusal :=
  .next (s.transact 0xA2 [] (clocks / 8) false)

/-- POWER_ON: every state at its reset value, REST and SENSOR OFF sent once (R31, R129, R172). The queue and the counter
of free choices are the model's own and stand (log 18). -/
def execPowerOn (s : State) : Host.Outcome State Fault Refusal :=
  .next { State.reset with pending := s.pending, choices := s.choices }

/-! ## The host's side: the frame of a request (FIGURE 104, FIGURE 108, FIGURE 109) -/

/-- The field word of some fields, bits 10 and 11 given. -/
def wordOf (f : TargetFields) (bandAbsent cls : Bool) : Nat :=
  [f.level.isSome, f.expected.isSome, f.tolerance.isSome, f.gate.isSome, f.interval.isSome, f.quantum.isSome,
   f.dwell.isSome, f.pattern.isSome, f.band.isSome, f.notify.isSome, bandAbsent, cls].foldr
    (fun b acc => 2 * acc + (if b then 1 else 0)) 0

/-- The target body (FIGURE 109); a field that is left out reads 0. -/
def targetBody (id cls : Nat) (word : Nat) (f : TargetFields) : List Byte :=
  beU 2 id ++ beU 1 cls ++ beU 2 word ++ orZeros 1 (beU 1) f.level ++ orZeros 8 dirBytes f.expected
    ++ orZeros 2 (beU 2) f.tolerance ++ orZeros 2 (beU 2) f.gate ++ orZeros 4 (beU 4) f.interval
    ++ orZeros 2 (beU 2) f.quantum ++ orZeros 2 (beU 2) f.dwell ++ orZeros 1 (beU 1) f.pattern
    ++ orZeros 4 (fun b => beU 2 b.1 ++ beU 2 b.2) f.band ++ orZeros 1 (beU 1) f.notify

def zoneFieldBytes (z : ZoneFields) : List Byte :=
  beU 1 z.id ++ beU 1 z.kind ++ beS 4 z.hzFrom ++ beS 4 z.hzTo ++ beS 4 z.vLow ++ beS 4 z.vHigh ++ beU 4 z.lifetime

def patternFieldBytes (n : Nat) (p : PatternFields) : List Byte :=
  beU 1 n ++ beU 1 p.mode ++ beU 1 p.innerCount ++ beU 1 p.middleCount ++ beU 1 p.outerCount
    ++ offsetBytes p.innerStep ++ offsetBytes p.middleStep ++ offsetBytes p.outerStep ++ offsetBytes p.start
    ++ beU 1 p.framesPerProbe ++ beU 1 p.ending

/-- The code, tag and body of a request; none for a command that is no request. -/
def requestParts (i : Instr) : Option (Nat × Byte × List Byte) :=
  match i with
  | .identify tag item => some (0x01, tag, beU 1 item)
  | .configure tag pairs => some (0x02, tag, pairs.flatMap fun p => beU 1 p.1 ++ beU 4 p.2)
  | .readConfiguration tag => some (0x03, tag, [])
  | .status tag => some (0x04, tag, [])
  | .clearStation tag => some (0x05, tag, [])
  | .targetAdd tag id cls f => some (0x10, tag, targetBody id cls (wordOf f false false) f)
  | .targetChange tag id cls absent f =>
    some (0x11, tag, targetBody id (cls.getD 0) (wordOf f absent cls.isSome) f)
  | .targetRead tag id => some (0x12, tag, beU 2 id)
  | .targetRetire tag id => some (0x13, tag, beU 2 id)
  | .targetHold tag id => some (0x14, tag, beU 2 id)
  | .targetResume tag id => some (0x15, tag, beU 2 id)
  | .targetList tag => some (0x16, tag, [])
  | .clearFlags tag id flags => some (0x17, tag, beU 2 id ++ [flags])
  | .changedList tag => some (0x18, tag, [])
  | .visitNow tag id level => some (0x19, tag, beU 2 id ++ (match level with | none => [] | some l => beU 1 l))
  | .zoneSet tag z => some (0x20, tag, zoneFieldBytes z)
  | .zoneRetire tag id => some (0x21, tag, beU 1 id)
  | .zoneRead tag id => some (0x22, tag, beU 1 id)
  | .patternLoad tag n p => some (0x28, tag, patternFieldBytes n p)
  | .patternRead tag n => some (0x29, tag, beU 1 n)
  | .point tag aim level hold => some (0x30, tag, dirBytes aim ++ beU 1 level ++ beU 4 hold)
  | .release tag id => some (0x31, tag, match id with | none => [] | some x => beU 2 x)
  | .stationMode tag mode => some (0x38, tag, beU 1 mode)
  | .clockRead tag => some (0x40, tag, [])
  | .clockSet tag time => some (0x41, tag, beU 4 time.toNat)
  | .reorient tag => some (0x48, tag, [])
  | .orientSet tag offset => some (0x49, tag, beS 4 offset)
  | .driveReset tag => some (0x50, tag, [])
  | .attentionRead tag => some (0x58, tag, [])
  | .attentionClear tag flags => some (0x59, tag, [flags])
  | .attentionMask tag mask => some (0x5A, tag, [mask])
  | _ => none

/-- The header and body of a request frame (FIGURE 104). -/
def requestPayload (code : Nat) (tag : Byte) (body : List Byte) : List Byte :=
  beU 1 code ++ [tag] ++ beU 2 body.length ++ body

/-- The whole frame of a request, its CRC last. -/
def requestFrame (code : Nat) (tag : Byte) (body : List Byte) : List Byte :=
  requestPayload code tag body ++ beU 2 (crc16 (requestPayload code tag body)).toNat

end Sys2Proof.Machine
end

