-- ==== Sys2Proof/Machine/Timers.lean ====
section
/-!
DEFINITION. Time: the expiries of the timers as commands, the millisecond that passes, and which expiries have fallen due
(spec 02, 03, 04, 05, 07).
-/

namespace Sys2Proof.Machine

open Config

/-! ## Countdowns and deferral timers (R37, R58) -/

/-- The reason of a countdown expiry: SCHEDULE for a WAITING record, RETRY for a LOST one (R37). -/
def expiryReason (st : RecordState) : Reason := if st = .lost then .retry else .schedule

/-- COUNTDOWN_EXPIRY: taken while counting is allowed, once per countdown (R37, log 2). -/
def execCountdownExpiry (id : Nat) (s : State) : Host.Outcome State Fault Refusal :=
  match s.find id with
  | none => .next s
  | some r =>
    if s.counting ∧ r.countdown.isSome then
      .next (((s.becomeDue id (expiryReason r.state) r.level false).arbitrate).settleDoze)
    else .next s

/-- The record gets OVERDUE and NEWS, and the OVERDUE attention flag is set (R58, R28). -/
def State.setOverdue (s : State) (id : Nat) : State :=
  let s1 := (s.modify id fun r => r.withFlags fun f => { f with overdue := true }).setNews id
  s1.withFlags { s1.flags with overdue := true }

/-- The deferral timer of a record's entry is gone; the entry stays DEFERRED (R58). -/
def State.dropDeferTimer (s : State) (id : Nat) : State :=
  s.withDue (s.due.map fun e => if e.work.target = some id then { e with deferTimer := none } else e)

/-- DEFERRAL_TIMER_EXPIRY: once in an episode (R58, log 2). -/
def execDeferralTimerExpiry (id : Nat) (s : State) : Host.Outcome State Fault Refusal :=
  if (s.entryOf id).any (fun e => e.deferTimer.isSome) then .next ((s.dropDeferTimer id).setOverdue id) else .next s

/-! ## Timers of the job in flight -/

/-- DWELL_TIMER_EXPIRY: the job ends with its found outcome (R84, log 2). -/
def execDwellTimerExpiry (s : State) : Host.Outcome State Fault Refusal :=
  if s.job.any (fun c => c.phase == .dwell && c.dwellLeft.isSome) then .next s.endDwell else .next s

/-- A hold timer runs: HOLD, with a hold above 0 (R91). -/
def JobContext.holdRuns (c : JobContext) : Bool :=
  c.phase == .hold &&
    match c.holdLeft with
    | some (.ms _) => true
    | some .untilRelease => false
    | none => false

/-- HOLD_TIMER_EXPIRY: the POINT job ends EXPIRED (R91, log 2). -/
def execHoldTimerExpiry (s : State) : Host.Outcome State Fault Refusal :=
  if s.job.any JobContext.holdRuns then .next (((s.finishJob .expired).startDecision).settleDoze) else .next s

/-- The search limit expires, by the stage (R109). -/
def State.searchLimitExpires (s : State) (c : JobContext) (st : SearchState) : State :=
  match st.stage with
  | .slewing => s.withJob (some { c with searchLeft := none, search := some { st with limitOut := true } })
  | .taking => ((s.finishJob .notFound).startDecision).settleDoze
  | .waiting => ((s.finishJob .notFound).startDecision).settleDoze

/-- SEARCH_LIMIT_EXPIRY (R109, log 2). -/
def execSearchLimitExpiry (s : State) : Host.Outcome State Fault Refusal :=
  match s.job with
  | none => .next s
  | some c =>
    match c.search with
    | none => .next s
    | some st =>
      if c.phase = .search ∧ c.searchLeft.isSome then .next (s.searchLimitExpires c st) else .next s

/-- COAST_TIMER_EXPIRY: a fresh entry into SEARCH about the prediction (R141, log 2). -/
def execCoastTimerExpiry (s : State) : Host.Outcome State Fault Refusal :=
  match s.job with
  | none => .next s
  | some c =>
    if c.phase = .coast ∧ c.coastLeft.isSome then .next ((s.coastExpires c).followUp) else .next s

/-- The quantum of the job runs: TRACK or COAST (R143). -/
def JobContext.quantumRuns (c : JobContext) : Bool := (c.phase == .track || c.phase == .coast) && c.quantumLeft.isSome

/-- An entry of the job's level is eligible: a yield (R64). -/
def State.yields (s : State) (c : JobContext) : Bool := s.due.any fun e => e.level == c.level && s.eligible e

/-- The quantum expires: a yield, or a restart with the quantum copy (R64, R143). -/
def State.quantumExpires (s : State) (c : JobContext) : State :=
  if s.yields c then ((s.finishJob .yielded).startDecision).settleDoze
  else s.withJob (some { c with quantumLeft := quantumTimer c.quantum })

/-- QUANTUM_EXPIRY (R64, R143, log 2). -/
def execQuantumExpiry (s : State) : Host.Outcome State Fault Refusal :=
  match s.job with
  | none => .next s
  | some c => if c.quantumRuns then .next (s.quantumExpires c) else .next s

/-! ## A millisecond passes (R35, R42, R155) -/

/-- A timer runs down by a millisecond while it runs. -/
def runDown (runs : Bool) (t : Option Nat) : Option Nat := if runs then t.map (· - 1) else t

/-- The hold runs down in HOLD. -/
def HoldTime.runDown (runs : Bool) : HoldTime → HoldTime
  | .untilRelease => .untilRelease
  | .ms n => .ms (if runs then n - 1 else n)

/-- The timers of the job in flight, each in its phases alone (R84, R91, R108, R141, R143). -/
def JobContext.tick (c : JobContext) : JobContext :=
  { c with
    dwellLeft := runDown (c.phase == .dwell) c.dwellLeft
    holdLeft := c.holdLeft.map (HoldTime.runDown (c.phase == .hold))
    searchLeft := runDown (c.phase == .search) c.searchLeft
    coastLeft := runDown (c.phase == .coast) c.coastLeft
    quantumLeft := runDown (c.phase == .track || c.phase == .coast) c.quantumLeft }

/-- The timers of the drive (R160, R163, R171). -/
def Drive.tick (d : Drive) : Drive :=
  { d with
    wakeLimit := runDown true d.wakeLimit
    moveLimit := runDown true d.moveLimit
    dozeDelay := runDown true d.dozeDelay }

/-- One millisecond of the reference clock passes: the Site Clock counts and every timer that runs runs down. -/
def State.tick (s : State) : State :=
  { s with
    clock := s.clock + 1
    records := s.records.map fun r => { r with countdown := runDown s.counting r.countdown }
    due := s.due.map fun e => { e with deferTimer := runDown true e.deferTimer }
    zones := s.zones.map fun z => { z with remaining := runDown true z.remaining }
    job := s.job.map JobContext.tick
    drive := s.drive.tick }

/-! ## The expiries that have fallen due -/

/-- A command when its timer stands at 0 and runs. -/
def dueIf (runs : Bool) (t : Option Nat) (i : Instr) : List Instr := if runs && t == some 0 then [i] else []

/-- The hold timer stands at 0. -/
def JobContext.holdOut (c : JobContext) : Bool := c.phase == .hold && c.holdLeft == some (.ms 0)

/-- The expiries of the job in flight that have fallen due. -/
def JobContext.dueExpiries (c : JobContext) : List Instr :=
  dueIf (c.phase == .dwell) c.dwellLeft .dwellTimerExpiry
    ++ (if c.holdOut then [.holdTimerExpiry] else [])
    ++ dueIf (c.phase == .search) c.searchLeft .searchLimitExpiry
    ++ dueIf (c.phase == .coast) c.coastLeft .coastTimerExpiry
    ++ dueIf (c.phase == .track || c.phase == .coast) c.quantumLeft .quantumExpiry

/-- The expiries of the drive that have fallen due. -/
def Drive.dueExpiries (d : Drive) : List Instr :=
  dueIf true d.wakeLimit .wakeLimitExpiry ++ dueIf true d.moveLimit .moveLimitExpiry
    ++ dueIf true d.dozeDelay .dozeDelayExpiry

/-- The deferral expiry of an entry when it has fallen due. -/
def Entry.dueExpiry (e : Entry) : List Instr :=
  match e.work.target with
  | none => []
  | some id => dueIf true e.deferTimer (.deferralTimerExpiry id)

/-- Every expiry that has fallen due: its timer stands at 0. -/
def State.dueExpiries (s : State) : List Instr :=
  (s.records.flatMap fun r => dueIf s.counting r.countdown (.countdownExpiry r.id))
    ++ s.due.flatMap Entry.dueExpiry
    ++ (s.zones.flatMap fun z => dueIf true z.remaining (.zoneLifetimeExpiry z.id))
    ++ (s.job.toList.flatMap JobContext.dueExpiries)
    ++ s.drive.dueExpiries

/-- The expiry that is taken next: any of those due together, by a free value (R37, R155, log 3). -/
def State.nextExpiry (s : State) : Option Instr :=
  match s.dueExpiries with
  | [] => none
  | [i] => some i
  | i :: l => some ((i :: l).getD (freeChoice s.choices % (i :: l).length) i)

end Sys2Proof.Machine
end

