-- ==== Sys2Proof/Machine/Dispatch.lean ====
section
/-!
DEFINITION. The dispatch: one arm per command, each one direct call of its meaning.
-/

namespace Sys2Proof.Machine

def exec (i : Instr) (s : State) : Host.Outcome State Fault Refusal :=
  match i with
  | .powerOn => Sys2Proof.Machine.execPowerOn s
  | .write frame cut published => Sys2Proof.Machine.execWrite frame cut published s
  | .read clocks => Sys2Proof.Machine.execRead clocks s
  | .replyPublish => Sys2Proof.Machine.execReplyPublish s
  | .identify tag item => Sys2Proof.Machine.execIdentify tag item s
  | .configure tag pairs => Sys2Proof.Machine.execConfigure tag pairs s
  | .readConfiguration tag => Sys2Proof.Machine.execReadConfiguration tag s
  | .status tag => Sys2Proof.Machine.execStatus tag s
  | .clearStation tag => Sys2Proof.Machine.execClearStation tag s
  | .targetAdd tag id cls fields => Sys2Proof.Machine.execTargetAdd tag id cls fields s
  | .targetChange tag id cls bandAbsent fields => Sys2Proof.Machine.execTargetChange tag id cls bandAbsent fields s
  | .targetRead tag id => Sys2Proof.Machine.execTargetRead tag id s
  | .targetRetire tag id => Sys2Proof.Machine.execTargetRetire tag id s
  | .targetHold tag id => Sys2Proof.Machine.execTargetHold tag id s
  | .targetResume tag id => Sys2Proof.Machine.execTargetResume tag id s
  | .targetList tag => Sys2Proof.Machine.execTargetList tag s
  | .clearFlags tag id flags => Sys2Proof.Machine.execClearFlags tag id flags s
  | .changedList tag => Sys2Proof.Machine.execChangedList tag s
  | .visitNow tag id level => Sys2Proof.Machine.execVisitNow tag id level s
  | .zoneSet tag zone => Sys2Proof.Machine.execZoneSet tag zone s
  | .zoneRetire tag id => Sys2Proof.Machine.execZoneRetire tag id s
  | .zoneRead tag id => Sys2Proof.Machine.execZoneRead tag id s
  | .patternLoad tag number fields => Sys2Proof.Machine.execPatternLoad tag number fields s
  | .patternRead tag number => Sys2Proof.Machine.execPatternRead tag number s
  | .point tag aim level hold => Sys2Proof.Machine.execPoint tag aim level hold s
  | .release tag id => Sys2Proof.Machine.execRelease tag id s
  | .stationMode tag mode => Sys2Proof.Machine.execStationMode tag mode s
  | .clockRead tag => Sys2Proof.Machine.execClockRead tag s
  | .clockSet tag time => Sys2Proof.Machine.execClockSet tag time s
  | .reorient tag => Sys2Proof.Machine.execReorient tag s
  | .orientSet tag offset => Sys2Proof.Machine.execOrientSet tag offset s
  | .driveReset tag => Sys2Proof.Machine.execDriveReset tag s
  | .attentionRead tag => Sys2Proof.Machine.execAttentionRead tag s
  | .attentionClear tag flags => Sys2Proof.Machine.execAttentionClear tag flags s
  | .attentionMask tag mask => Sys2Proof.Machine.execAttentionMask tag mask s
  | .readyReport axis => Sys2Proof.Machine.execReadyReport axis s
  | .atPosition axis position move => Sys2Proof.Machine.execAtPosition axis position move s
  | .stalled axis => Sys2Proof.Machine.execStalled axis s
  | .fault axis code => Sys2Proof.Machine.execFault axis code s
  | .sensorFrame bytes => Sys2Proof.Machine.execSensorFrame bytes s
  | .tiltSample cross long => Sys2Proof.Machine.execTiltSample cross long s
  | .countdownExpiry id => Sys2Proof.Machine.execCountdownExpiry id s
  | .deferralTimerExpiry id => Sys2Proof.Machine.execDeferralTimerExpiry id s
  | .zoneLifetimeExpiry id => Sys2Proof.Machine.execZoneLifetimeExpiry id s
  | .dwellTimerExpiry => Sys2Proof.Machine.execDwellTimerExpiry s
  | .holdTimerExpiry => Sys2Proof.Machine.execHoldTimerExpiry s
  | .searchLimitExpiry => Sys2Proof.Machine.execSearchLimitExpiry s
  | .coastTimerExpiry => Sys2Proof.Machine.execCoastTimerExpiry s
  | .quantumExpiry => Sys2Proof.Machine.execQuantumExpiry s
  | .wakeLimitExpiry => Sys2Proof.Machine.execWakeLimitExpiry s
  | .moveLimitExpiry => Sys2Proof.Machine.execMoveLimitExpiry s
  | .dozeDelayExpiry => Sys2Proof.Machine.execDozeDelayExpiry s

end Sys2Proof.Machine
end

