-- ==== Sys2Proof/Machine/Step.lean ====
section
/-!
DEFINITION. One step: the command at the front of the queue, or, with an empty queue, an expiry that has fallen due, or a
millisecond that passes (log 1).
-/

namespace Sys2Proof.Machine

/-- The queue is empty: an expiry that has fallen due is taken, else a millisecond passes (log 1). The counter of free
choices advances with every expiry taken (log 3). -/
def State.idleStep (s : State) : Host.Outcome State Fault Refusal :=
  match s.nextExpiry with
  | none => .next s.tick
  | some i => exec i { s with choices := s.choices + 1 }

/-- One step of the part. -/
def step (s : State) : Host.Outcome State Fault Refusal :=
  match s.pending with
  | [] => s.idleStep
  | c :: rest => exec c { s with pending := rest }

/-- s with the command that a word of the table spells at the front of its queue; no row of the table gives bits, so s is
unchanged. -/
def State.withFetchWord (s : State) (nbits w : Nat) : State :=
  match decodeTableWord nbits w with
  | none => s
  | some i => { s with pending := i :: s.pending }

end Sys2Proof.Machine
end

