-- ==== Sys2Proof/Safety.lean ====
section
/-!
DEFINITION. Invariants of the part: what the rules say holds between any two events, and the words the statements use.
-/

namespace Sys2Proof.Machine

open Config

/-! ## The arbiter and the sensor -/

/-- No slot is occupied. -/
abbrev Slots.free (x : Slots) : Prop := x.s0 = none ∧ x.s1 = none ∧ x.s2 = none

/-- A context in the slot of a level has that level, and stands below the job in flight (R50). -/
abbrev slotBelow (slot : Option JobContext) (k : Nat) (job : Option JobContext) : Prop :=
  ∀ c ∈ slot, c.level = k ∧ ∀ j ∈ job, k < j.level

/-- R50, R53, R60 and R112: no job while PARKED, DISTURBED or FAULT; occupied slots only below a job in flight, each context
in the slot of its level; the pending-preemption mark only in CONFIRM; the sensor on exactly while a job is in flight. -/
structure ArbiterOk (s : State) : Prop where
  blockedIdle : s.blocked = true → s.job = none
  idleSlots : s.job = none → s.slots.free
  slot0 : slotBelow s.slots.s0 0 s.job
  slot1 : slotBelow s.slots.s1 1 s.job
  slot2 : slotBelow s.slots.s2 2 s.job
  markInConfirm : s.preempt = true → ∃ c ∈ s.job, c.phase = .confirm
  sensor : s.sensorOn = s.job.isSome

/-! ## The tables -/

/-- R3, R95, R148: slots rising and inside the table, ids all different, at most 12 zones in the order of different ids,
eight patterns. -/
structure TablesOk (s : State) : Prop where
  slots : (s.records.map (·.slot)).Pairwise (· < ·)
  inTable : ∀ r ∈ s.records, r.slot < tableCapacity
  ids : (s.records.map (·.id)).Nodup
  zones : s.zones.length ≤ zoneCapacity
  zoneIds : (s.zones.map (·.id)).Pairwise (· < ·)
  patterns : s.patterns.length = patternCount

/-! ## Records, entries, jobs and slots -/

/-- The record of an id has the class of a kind of work (FIGURE 22). -/
abbrev State.kindIs (s : State) (id : Nat) (kind : JobKind) : Prop :=
  match s.find id with
  | none => False
  | some r => kind = if r.fields.cls = .moving then .track else .visit

/-- The work of a context: its kind goes with its target, and its record exists (R9, FIGURE 22). -/
abbrev State.contextLinked (s : State) (c : JobContext) : Prop :=
  match c.target with
  | none => c.kind = .point
  | some id => s.kindIs id c.kind

/-- The work of an entry goes with the class of its record, which exists (R47, FIGURE 22). -/
abbrev State.entryLinked (s : State) (e : Entry) : Prop :=
  match e.work with
  | .visit id => s.kindIs id .visit
  | .track id => s.kindIs id .track
  | .point _ _ => True

/-- The phases that a kind of job passes through (FIGURE 36, FIGURE 37, FIGURE 68): a POINT wakes, slews and holds; TRACK and
COAST are a TRACK job's alone, DWELL a VISIT's. -/
abbrev JobContext.phaseOfKind (c : JobContext) : Prop :=
  (c.kind = .point → c.phase = .wake ∨ c.phase = .slew ∨ c.phase = .hold)
  ∧ (c.kind = .visit → c.phase ≠ .track ∧ c.phase ≠ .coast ∧ c.phase ≠ .hold)
  ∧ (c.kind = .track → c.phase ≠ .dwell ∧ c.phase ≠ .hold)

/-- How many POINTs there are: entries, the job in flight, contexts in slots (R49). -/
def State.pointCount (s : State) : Nat :=
  (s.due.countP fun e => e.work.target == none) + (if s.pointInFlight then 1 else 0)
    + s.slots.contexts.countP fun c => c.kind == .point

/-- R8, R9, R10, R47, R48 and R49: a record is ACTIVE exactly when the job in flight is its job, SUSPENDED exactly when a slot
holds its context, DUE exactly when the Due List holds its entry, one of each at most; its due reason and its DEFERRED flag are
those of the entry; a job in DWELL has found something (R84), every job and context is in a phase of its kind, and a POINT has
reason HOST wherever it stands (R49); at most one POINT exists; the levels are 0 to 3, the highest level first in the list. -/
structure LinksOk (s : State) : Prop where
  active : ∀ r ∈ s.records, r.state = .active ↔ s.jobIsFor r.id = true
  suspended : ∀ r ∈ s.records, r.state = .suspended ↔ s.slotIsFor r.id = true
  due : ∀ r ∈ s.records, r.state = .due ↔ (s.entryOf r.id).isSome = true
  reason : ∀ r ∈ s.records, r.dueReason = (s.entryOf r.id).map (·.reason)
  deferred : ∀ r ∈ s.records, r.flags.deferred = (s.entryOf r.id).any (fun e => e.deferredSince.isSome)
  entries : ∀ e ∈ s.due, s.entryLinked e
  job : ∀ c ∈ s.job, s.contextLinked c
  slots : ∀ c ∈ s.slots.contexts, s.contextLinked c
  dwell : ∀ c ∈ s.job, c.phase = .dwell → c.found.isSome = true
  phases : ∀ c ∈ s.job.toList ++ s.slots.contexts, c.phaseOfKind
  pointEntry : ∀ e ∈ s.due, e.work.target = none → e.reason = .host
  pointContext : ∀ c ∈ s.job.toList ++ s.slots.contexts, c.kind = .point → c.reason = .host
  oneEntry : (s.due.map (·.work.target)).Nodup
  oneContext : (s.slots.contexts.filterMap (·.target)).Nodup
  onePoint : s.pointCount ≤ 1
  order : (s.due.map (·.level)).Pairwise (· ≥ ·)
  entryLevels : ∀ e ∈ s.due, e.level ≤ 3
  recordLevels : ∀ r ∈ s.records, r.level ≤ 3

/-- The tables, the arbiter and the links together. -/
structure StationOk (s : State) : Prop where
  tables : TablesOk s
  arbiter : ArbiterOk s
  links : LinksOk s

/-! ## Countdowns (R32) -/

/-- R32: a record has a countdown exactly when it is WAITING, or LOST while LOST_RETRY is not 0. A MOVING record is never
WAITING, and what a job has found belongs to a VISIT (R24, R82). -/
structure CountdownsOk (s : State) : Prop where
  countdown : ∀ r ∈ s.records,
    r.countdown.isSome = true ↔ r.state = .waiting ∨ (r.state = .lost ∧ s.params.lostRetry ≠ 0)
  movingNeverWaits : ∀ r ∈ s.records, r.state = .waiting → r.fields.cls ≠ .moving
  foundByVisit : ∀ c ∈ s.job.toList ++ s.slots.contexts, c.found.isSome = true → c.kind = .visit

/-! ## Record fields -/

/-- The class's fields lie in their ranges (FIGURE 8). -/
abbrev ClassFields.inRange (f : ClassFields) : Prop :=
  (∀ x ∈ f.fixed?, x.tolerance ≤ 12000 ∧ 1 ≤ x.interval ∧ x.interval ≤ 86400 ∧ x.dwell ≤ 30000)
  ∧ ∀ quantum ∈ f.quantum?, quantum ≤ 600

/-- FIGURE 8 and R5 for one record: the slot, the ranges, and the gate at least the tolerance. -/
structure RecordOk (r : TargetRecord) : Prop where
  slot : r.slot < tableCapacity
  id : validTargetId r.id = true
  fields : r.fields.inRange
  band : ∀ b ∈ r.band, b.lo ≤ b.hi ∧ b.hi ≤ 1023
  level : r.level ≤ 3
  expected : validDir r.expected = true
  gate : 1 ≤ r.gate ∧ r.gate ≤ 12000
  covers : gateCovers r.fields r.gate = true
  pattern : r.pattern ≤ 7
  miss : r.missCount ≤ 255

/-! ## The drives -/

/-- What the drive holds by its state (R158 to R171, FIGURE 84): the fault code and the further-fault indicator, the wake
limit, the move limit, the awaited marks, the purpose and the park-pending mark. -/
structure DriveOk (d : Drive) : Prop where
  code : d.state = .fault ↔ d.faultCode ≠ .none
  further : d.further = true → d.state = .fault
  wake : d.wakeLimit.isSome = true ↔ d.state = .waking
  move : d.moveLimit.isSome = true ↔ d.state = .slewing
  awaited : (d.awaitHz || d.awaitV) = true ↔ d.state = .slewing
  purpose : d.purpose ≠ .none → d.state = .slewing
  pending : d.parkPending = true → d.state ≠ .rest ∧ d.state ≠ .fault

/-- R169 and R171: a park is pending only while PARKED, and the doze delay runs only in DOZE with the drive READY and no job in
flight. -/
structure RestOk (s : State) : Prop where
  drive : DriveOk s.drive
  parked : s.drive.parkPending = true → s.mode = .parked
  doze : s.drive.dozeDelay.isSome = true → s.dozing = true

/-! ## The job and the drive (R74 to R76, R106, R134, R141) -/

/-- The stage of a search fits the drive: a probe slewed to waits for a wake or a slew of the job and lies inside the V
limits; frames are taken with the drive READY. -/
abbrev State.stageFits (s : State) (st : SearchState) : Prop :=
  match st.stage with
  | .slewing =>
    (s.drive.state = .waking ∨ (s.drive.state = .slewing ∧ s.drive.purpose = .job)) ∧ vInLimits st.direction.v = true
  | .taking => s.drive.state = .ready
  | .waiting => s.drive.state ≠ .steering ∧ s.drive.state ≠ .fault

/-- The phase of a job fits the drive: WAKE with WAKING, SLEW with a slew of the job, TRACK and COAST with STEERING, LOOK,
CONFIRM, DWELL and HOLD with READY. -/
abbrev State.phaseFits (s : State) (c : JobContext) : Prop :=
  match c.phase with
  | .wake => s.drive.state = .waking
  | .slew => s.drive.state = .slewing ∧ s.drive.purpose = .job
  | .look => s.drive.state = .ready
  | .confirm => s.drive.state = .ready
  | .search => ∃ st ∈ c.search, s.stageFits st
  | .dwell => s.drive.state = .ready
  | .track => s.drive.state = .steering
  | .coast => s.drive.state = .steering
  | .hold => s.drive.state = .ready

/-- An entry that is a POINT aims inside the V limits. -/
abbrev Work.aimFits (w : Work) : Prop :=
  match w with
  | .visit _ => True
  | .track _ => True
  | .point aim _ => vInLimits aim.v = true

/-- The job in flight and the drive stand together, and every direction the part may be sent to lies inside the V limits. -/
structure DutyOk (s : State) : Prop where
  idle : s.job = none → s.drive.state ≠ .steering
  phase : ∀ c ∈ s.job, s.phaseFits c
  search : ∀ c ∈ s.slots.contexts, c.phase = .search → c.search.isSome = true
  aim : ∀ c ∈ s.job.toList ++ s.slots.contexts, vInLimits c.aim.v = true
  point : ∀ e ∈ s.due, e.work.aimFits
  expected : ∀ r ∈ s.records, vInLimits r.expected.v = true

/-! ## Orientation (R173, R177 to R183) -/

/-- R173, R177 to R179, R182: entries of reason REORIENT stand at level 3 and only in REORIENTING, where at least one, or a job
of that reason, is there; the tally is empty outside; the offset is in its range; a REORIENT job has level 3, and one that is in
flight outside REORIENTING is left over from it. -/
structure OrientOk (s : State) : Prop where
  entries : ∀ e ∈ s.due, e.reason = .reorient → e.level = 3 ∧ s.orient.state = .reorienting
  job : ∀ c ∈ s.job, c.reason = .reorient → c.level = 3
  slots : ∀ c ∈ s.slots.contexts, c.reason ≠ .reorient
  leftOver : ∀ c ∈ s.job.toList ++ s.slots.contexts, c.leftOver = true → c.reason = .reorient
  outside : ∀ c ∈ s.job, c.reason = .reorient → s.orient.state ≠ .reorienting → c.leftOver = true
  open_ : s.reorientDone = false
  tally : s.orient.state ≠ .reorienting → s.orient.tally = Tally.empty
  offset : -halfTurn ≤ s.orient.offset ∧ s.orient.offset < halfTurn

/-! ## What an event leaves alone -/

/-- The fields of a record that the host alone writes (R3, R5, R6). -/
structure HostFields where
  slot : Nat
  id : Nat
  fields : ClassFields
  level : Nat
  expected : Dir
  gate : Nat
  pattern : Nat
  band : Option Band
  notify : Notify
  deriving DecidableEq, Repr

def TargetRecord.host (r : TargetRecord) : HostFields :=
  ⟨r.slot, r.id, r.fields, r.level, r.expected, r.gate, r.pattern, r.band, r.notify⟩

/-- What no event of the job, the arbiter, the drive or the orientation changes: the station mode, the clock, the
configuration, the patterns, the zones, the attention mask, the port, the transaction trace, the queue and its counter, and
the host's fields of every record. -/
structure Kept where
  mode : StationMode
  clock : SiteTime
  params : Params
  patterns : List Pattern
  zones : List Zone
  mask : Attention
  port : Port
  spiOut : List Byte
  pending : List Instr
  choices : Nat
  host : List HostFields
  deriving DecidableEq, Repr

def State.kept (s : State) : Kept :=
  ⟨s.mode, s.clock, s.params, s.patterns, s.zones, s.mask, s.port, s.spiOut, s.pending, s.choices,
    s.records.map TargetRecord.host⟩

/-- The event has left alone what State.kept holds. -/
abbrev Frame (s t : State) : Prop := t.kept = s.kept

/-- The state with a request in hand that has been answered so (R185, R186). -/
abbrev State.answered (s : State) (tag : Byte) (status : Status) (body : List Byte) : State :=
  { s with port := ⟨some ⟨status, tag, body⟩, none, false⟩ }

/-! ## Words of the statements -/

/-- The port has this answer of a request in hand, and no last reply (R185, R186). -/
abbrev State.answers (s : State) (tag : Byte) (status : Status) (body : List Byte) : Prop :=
  s.port = ⟨some ⟨status, tag, body⟩, none, false⟩

/-- The 31 request codes (FIGURE 105). -/
def requestCodes : List Nat :=
  [0x01, 0x02, 0x03, 0x04, 0x05, 0x10, 0x11, 0x12, 0x13, 0x14, 0x15, 0x16, 0x17, 0x18, 0x19, 0x20, 0x21, 0x22, 0x28, 0x29,
   0x30, 0x31, 0x38, 0x40, 0x41, 0x48, 0x49, 0x50, 0x58, 0x59, 0x5A]

/-- The body has the form its request calls for (R194, FIGURE 108): a length the layout allows, and no bit set that the
layout does not define in the field word of a target body or in the flags of CLEAR FLAGS. -/
def bodyForm (code : Nat) (b : List Byte) : Prop :=
  (code ∈ [0x03, 0x04, 0x05, 0x16, 0x18, 0x40, 0x48, 0x50, 0x58] → b.length = 0)
  ∧ (code ∈ [0x01, 0x21, 0x22, 0x29, 0x38, 0x59, 0x5A] → b.length = 1)
  ∧ (code ∈ [0x12, 0x13, 0x14, 0x15] → b.length = 2)
  ∧ (code = 0x41 ∨ code = 0x49 → b.length = 4)
  ∧ (code = 0x02 → ∃ n, n ≤ 17 ∧ b.length = 5 * n)
  ∧ (code = 0x10 → b.length = 32 ∧ readU b 3 2 < 2 ^ 10)
  ∧ (code = 0x11 → b.length = 32 ∧ readU b 3 2 < 2 ^ 12
      ∧ ¬ ((readU b 3 2).testBit 8 = true ∧ (readU b 3 2).testBit 10 = true))
  ∧ (code = 0x17 → b.length = 3 ∧ (b.getD 2 0).toNat < 64)
  ∧ (code = 0x19 → b.length = 2 ∨ b.length = 3)
  ∧ (code = 0x20 → b.length = 22)
  ∧ (code = 0x28 → b.length = 39)
  ∧ (code = 0x30 → b.length = 13)
  ∧ (code = 0x31 → b.length = 0 ∨ b.length = 2)

/-- The number fits into four bytes as a two's complement number. -/
abbrev fits32 (x : Int) : Prop := -2147483648 ≤ x ∧ x < 2147483648

/-- From s to t the drive has been asked to move to a direction for a job (R72, R74, R158, R160, R161): a drive in REST is
woken, a WAKING one is waited for, a READY or SLEWING one is sent MOVE TO; a running doze delay is cancelled. That Hz is sent
before V is the model's choice (log 35). -/
def movesTo (s t : State) (aim : Dir) (limit : Nat) : Prop :=
  (s.drive.state = .rest →
    t.drive = { s.drive with
      state := .waking, readyHz := false, readyV := false, wakeLimit := some 2000, dozeDelay := none }
    ∧ t.axisOut = s.axisOut ++ [.energize .hz, .energize .v])
  ∧ (s.drive.state = .waking → t.drive = { s.drive with dozeDelay := none } ∧ t.axisOut = s.axisOut)
  ∧ (s.drive.state = .ready ∨ s.drive.state = .slewing → vInLimits aim.v = true →
    t.drive = { s.drive with
      state := .slewing, purpose := .job, awaitHz := true, awaitV := true, moveLimit := some limit
      moveHz := s.drive.moveHz + 1, moveV := s.drive.moveV + 1, dozeDelay := none }
    ∧ t.axisOut = s.axisOut ++ [.moveTo .hz aim.hz (s.drive.moveHz + 1), .moveTo .v aim.v (s.drive.moveV + 1)])

/-- The first phase of a job that starts or resumes, by the state of the drive (FIGURE 38). -/
def firstPhase (d : DriveState) : Phase := if d = .rest ∨ d = .waking then .wake else .slew

/-- From s to t the sensor has been switched on, unless it was on (R72, R112, R114). -/
def switchesOn (s t : State) : Prop :=
  t.sensorOn = true
  ∧ (s.sensorOn = true → t.lastFrame = s.lastFrame ∧ t.sensorOut = s.sensorOut)
  ∧ (s.sensorOn = false → t.lastFrame = none ∧ t.sensorOut = s.sensorOut ++ [.on])

/-- The drive has come to stand READY in DOZE with no job in flight (R171): the doze delay is loaded, or a delay of 0 sends REST
at once, to Hz before V (log 35). -/
def dozes (s t : State) : Prop :=
  (s.params.dozeDelay = 0 → t.drive.state = .rest ∧ t.drive.dozeDelay = none
    ∧ t.axisOut = s.axisOut ++ [.rest .hz, .rest .v])
  ∧ (0 < s.params.dozeDelay → t.drive.state = .ready ∧ t.drive.dozeDelay = some (s.params.dozeDelay * 1000)
    ∧ t.axisOut = s.axisOut)

/-- From s to t a stop request has been made (R165, FIGURE 87): a drive that slews or steers is sent STOP on both axes and is
READY at once, with nothing awaited and no move limit; a park that is pending then starts (R169). Any other drive is left as it
is. That Hz is sent before V is the model's choice (log 35). -/
def stopsAxes (s t : State) : Prop :=
  let halted : Drive := { s.drive with
    state := .ready, readyHz := false, readyV := false, wakeLimit := none, purpose := .none, awaitHz := false
    awaitV := false, moveLimit := none }
  (s.drive.state ≠ .slewing → s.drive.state ≠ .steering → t.drive = s.drive ∧ t.axisOut = s.axisOut)
  ∧ (s.drive.state = .slewing ∨ s.drive.state = .steering →
    (s.drive.parkPending = false → t.drive = halted ∧ t.axisOut = s.axisOut ++ [.stop .hz, .stop .v])
    ∧ (s.drive.parkPending = true →
      t.drive = { halted with
        state := .slewing, purpose := .park, awaitV := true, moveLimit := some s.params.moveLimit
        moveV := s.drive.moveV + 1 }
      ∧ t.axisOut = s.axisOut ++ [.stop .hz, .stop .v, .moveTo .v vHigh (s.drive.moveV + 1)]))

/-- TARGET CHANGE passes its checks for a record (R13): no class named, no band both given and named as absent, no field that the
class does not carry, every value in its range, and the gate after the change not less than the tolerance after it. -/
def changeOk (cls : Option Nat) (absent : Bool) (f : TargetFields) (r : TargetRecord) : Prop :=
  cls = none ∧ ¬ (absent = true ∧ f.band.isSome = true) ∧ TargetFields.foreignTo f r.fields = false
    ∧ TargetFields.inRange f = true ∧ (TargetFields.overClass f r.fields).toleranceOr0 ≤ f.gate.getD r.gate

/-- What TARGET CHANGE writes into the record at once (R14 to R17): the new value of each field named; a new interval restarts the
countdown of a WAITING record; a new direction removes the last confirmation, the residual and the rate. -/
def changedRecord (absent : Bool) (f : TargetFields) (x : TargetRecord) : TargetRecord :=
  let fixed := fun y : FixedFields =>
    (⟨f.tolerance.getD y.tolerance, f.interval.getD y.interval, f.dwell.getD y.dwell⟩ : FixedFields)
  { x with
    fields := match x.fields with
      | .static y => .static (fixed y)
      | .reference y => .reference (fixed y)
      | .moving quantum => .moving (f.quantum.getD quantum)
    level := f.level.getD x.level
    expected := f.expected.getD x.expected
    gate := f.gate.getD x.gate
    pattern := f.pattern.getD x.pattern
    band := if absent then none else (f.band.map fun b => (⟨b.1, b.2⟩ : Band)).or x.band
    notify := (f.notify.bind notifyOf).getD x.notify
    countdown := match f.interval with
      | none => x.countdown
      | some i => if x.state = .waiting then some (i * 1000) else x.countdown
    confirmation := if f.expected.isSome then none else x.confirmation
    residual := if f.expected.isSome then none else x.residual
    rate := if f.expected.isSome then none else x.rate }

/-- What an abort of the job in flight and of every context leaves of their records (R10, R26, R48, R51, R179): each is DUE with
no countdown and the end reason as its last end, with a new entry of its own level and reason SCHEDULE; a REORIENT job of a
reorientation that is still open leaves one of level 3 and reason REORIENT. Nothing else of the record changes but its NEWS, which
the end of a reorientation may set (R178). -/
def abortLeaves (s t : State) (reason : EndReason) : Prop :=
  ∀ r ∈ s.records, r.state = .active ∨ r.state = .suspended →
    let again : Bool := t.orient.state == .reorienting
      && s.job.any fun c => c.target == some r.id && c.reason == .reorient && !c.leftOver
    let why : Reason := if again then .reorient else .schedule
    (∃ news : Bool, t.find r.id = some { r with
      state := .due, countdown := none, dueReason := some why, lastEnd := some reason
      flags := { r.flags with news := news } })
    ∧ t.entryOf r.id = some ⟨r.work, if again then 3 else r.level, why, s.clock, false, none, none⟩

/-- The fields of TARGET ADD pass its first check (R11, FIGURE 8, FIGURE 12): the id, the class, every value given in its
range, the fields the class requires, none it does not allow, and the gate not less than the tolerance. -/
def addFieldsOk (id cls : Nat) (f : TargetFields) : Prop :=
  (1 ≤ id ∧ id ≤ 65534) ∧ TargetFields.inRange f = true ∧ f.level.isSome = true ∧ f.expected.isSome = true
    ∧ f.gate.isSome = true ∧ f.pattern.isSome = true ∧ f.notify.isSome = true
    ∧ (((cls = 0 ∨ cls = 1) ∧ f.tolerance.isSome = true ∧ f.interval.isSome = true ∧ f.dwell.isSome = true
          ∧ f.quantum = none ∧ f.tolerance.getD 0 ≤ f.gate.getD 0)
        ∨ (cls = 2 ∧ f.quantum.isSome = true ∧ f.tolerance = none ∧ f.interval = none ∧ f.dwell = none))

/-- The class fields that TARGET ADD writes (R5, R12). -/
def addedFields (cls : Nat) (f : TargetFields) : ClassFields :=
  if cls = 0 then .static ⟨f.tolerance.getD 0, f.interval.getD 0, f.dwell.getD 0⟩
  else if cls = 1 then .reference ⟨f.tolerance.getD 0, f.interval.getD 0, f.dwell.getD 0⟩
  else .moving (f.quantum.getD 0)

/-- The record that TARGET ADD creates (R12): the values given, DUE with reason ADDED, nothing else. -/
def addedRecord (slot id cls : Nat) (f : TargetFields) : TargetRecord where
  slot := slot
  id := id
  fields := addedFields cls f
  state := .due
  level := f.level.getD 0
  expected := f.expected.getD ⟨0, 0⟩
  gate := f.gate.getD 0
  pattern := f.pattern.getD 0
  band := f.band.map fun b => ⟨b.1, b.2⟩
  notify := (f.notify.bind notifyOf).getD .none
  countdown := none
  confirmation := none
  residual := none
  rate := none
  missCount := 0
  flags := ⟨false, false, false, false, false, false⟩
  dueReason := some .added
  lastEnd := none

/-- The value of a configuration parameter by its number, 1 to 17 (FIGURE 101). -/
def paramValue (c : Params) (n : Nat) : Nat := (paramValues c).getD (n - 1) 0

/-- The state with one record's state, countdown and due reason set, and its new entry at the tail of a level (R10, R48). -/
def State.joined (s : State) (r : TargetRecord) (reason : Reason) (level : Nat) (given : Bool) : State :=
  { s with
    records := s.records.map fun x =>
      if x.id = r.id then { x with state := .due, countdown := none, dueReason := some reason } else x
    due := dueInsert ⟨r.work, level, reason, s.clock, given, none, none⟩ s.due }

/-- The event taken, then the arbiter's decision or preemption test, then the doze delay (R52, R59, R171). -/
def State.thenDecides (s : State) : State := s.arbitrate.settleDoze

/-- The arbiter has a start decision after an end of the job, then the doze delay (R52, R62, R171). -/
def State.thenStarts (s : State) : State := s.startDecision.settleDoze

/-- The moves in a piece of the Axis Link trace carry the next move number of their axis each (R158): the numbers after it,
from the numbers before. -/
def movesRun : Byte × Byte → List AxisCommand → Option (Byte × Byte)
  | p, [] => some p
  | p, .moveTo .hz _ n :: l => if n = p.1 + 1 then movesRun (n, p.2) l else none
  | p, .moveTo .v _ n :: l => if n = p.2 + 1 then movesRun (p.1, n) l else none
  | p, .energize _ :: l => movesRun p l
  | p, .rest _ :: l => movesRun p l
  | p, .stop _ :: l => movesRun p l

/-- A command of the Axis Link keeps the V limits (R1). -/
def AxisCommand.insideLimits : AxisCommand → Bool
  | .moveTo .v p _ => vInLimits p
  | .moveTo .hz _ _ => true
  | .energize _ => true
  | .rest _ => true
  | .stop _ => true

/-- The commands in a piece of the Spot Link trace switch the sensor each (R112): its state after, from its state before. -/
def switchesRun : Bool → List SensorCommand → Option Bool
  | b, [] => some b
  | b, .on :: l => if b then none else switchesRun true l
  | b, .off :: l => if b then switchesRun false l else none

/-- Every flag of the first is set in the second. -/
abbrev Attention.within (a b : Attention) : Prop :=
  (a.news → b.news) ∧ (a.displacement → b.displacement) ∧ (a.lost → b.lost) ∧ (a.overdue → b.overdue)
    ∧ (a.drive → b.drive) ∧ (a.level → b.level) ∧ (a.orient → b.orient) ∧ (a.zone → b.zone)

end Sys2Proof.Machine
end

