-- ==== Sys2Proof/Certificates/Slice0/Obligations.lean ====
section
/-!
DEFINITION. The statements for the provers.
-/

open Sys2Proof Sys2Proof.Machine Sys2Proof.Config

/-! ## Steps and reset -/

/-- A step with a command at the front of the queue is that command on the state with the queue's rest. -/
def Obligations.StepRunsFrontCommand : Prop :=
  ∀ (c : Instr) (rest : List Instr) (s : State),
    step { s with pending := c :: rest } = exec c { s with pending := rest }

/-- No command of the table stops the part (log 22).

On an empty queue with no expiry fallen due, a millisecond passes and nothing else happens: the clock counts (R42),
countdowns run down only while counting is allowed (R35), every zone lifetime and deferral timer runs down (R155, R58), the
timers of the job in flight run down each in its phases alone (R84, R91, R108, R141, R143), and the timers of the drive run
down (R160, R163, R171). With an expiry fallen due, one of those due is taken (log 1, log 3: the model's choice of a step).

An expiry has fallen due exactly when its timer stands at 0 and runs: a countdown while counting is allowed (R35), a deferral
timer, a lifetime, a timer of the job in its phase, or a timer of the drive. -/
def Obligations.EveryStepAnswersNext : Prop :=
  (∀ (c : Instr) (s : State), ∃ t, exec c s = .next t)
  ∧ (∀ s : State, s.pending = [] →
    (s.dueExpiries = [] → step s = .next { s with
      clock := s.clock + 1
      records := s.records.map fun r =>
        if s.mode ≠ .parked ∧ s.orient.state ≠ .disturbed then { r with countdown := r.countdown.map (· - 1) } else r
      zones := s.zones.map fun z => { z with remaining := z.remaining.map (· - 1) }
      due := s.due.map fun e => { e with deferTimer := e.deferTimer.map (· - 1) }
      job := s.job.map fun c => { c with
        dwellLeft := if c.phase = .dwell then c.dwellLeft.map (· - 1) else c.dwellLeft
        holdLeft := c.holdLeft.map fun h => match h with
          | .untilRelease => .untilRelease
          | .ms n => .ms (if c.phase = .hold then n - 1 else n)
        searchLeft := if c.phase = .search then c.searchLeft.map (· - 1) else c.searchLeft
        coastLeft := if c.phase = .coast then c.coastLeft.map (· - 1) else c.coastLeft
        quantumLeft := if c.phase = .track ∨ c.phase = .coast then c.quantumLeft.map (· - 1) else c.quantumLeft }
      drive := { s.drive with
        wakeLimit := s.drive.wakeLimit.map (· - 1)
        moveLimit := s.drive.moveLimit.map (· - 1)
        dozeDelay := s.drive.dozeDelay.map (· - 1) } })
    ∧ (s.dueExpiries ≠ [] → ∃ i ∈ s.dueExpiries, step s = exec i { s with choices := s.choices + 1 }))
  ∧ (∀ (s : State) (i : Instr), i ∈ s.dueExpiries ↔
    (∃ r ∈ s.records, i = .countdownExpiry r.id ∧ r.countdown = some 0 ∧ s.mode ≠ .parked ∧ s.orient.state ≠ .disturbed)
    ∨ (∃ e ∈ s.due, ∃ id, e.work.target = some id ∧ i = .deferralTimerExpiry id ∧ e.deferTimer = some 0)
    ∨ (∃ z ∈ s.zones, i = .zoneLifetimeExpiry z.id ∧ z.remaining = some 0)
    ∨ (∃ c ∈ s.job, (i = .dwellTimerExpiry ∧ c.phase = .dwell ∧ c.dwellLeft = some 0)
        ∨ (i = .holdTimerExpiry ∧ c.phase = .hold ∧ c.holdLeft = some (.ms 0))
        ∨ (i = .searchLimitExpiry ∧ c.phase = .search ∧ c.searchLeft = some 0)
        ∨ (i = .coastTimerExpiry ∧ c.phase = .coast ∧ c.coastLeft = some 0)
        ∨ (i = .quantumExpiry ∧ (c.phase = .track ∨ c.phase = .coast) ∧ c.quantumLeft = some 0))
    ∨ (i = .wakeLimitExpiry ∧ s.drive.wakeLimit = some 0) ∨ (i = .moveLimitExpiry ∧ s.drive.moveLimit = some 0)
    ∨ (i = .dozeDelayExpiry ∧ s.drive.dozeDelay = some 0))

/-- POWER_ON puts every state at its reset value (R31, R46, R69, R94, R96, R129, R157, R172, R183, R185, R188, R191). That
the queue and the model's counter stand is the model's choice (log 18), and so is that REST goes to Hz before V (log 35).

The invariants hold right after reset. -/
def Obligations.ResetStateHolds : Prop :=
  (∀ s : State, ∃ t, exec .powerOn s = .next t
    ∧ t.port = ⟨none, none, false⟩ ∧ t.records = [] ∧ t.clock = 0 ∧ t.due = []
    ∧ t.slots = ⟨none, none, none⟩ ∧ t.mode = .parked ∧ t.preempt = false ∧ t.job = none
    ∧ t.patterns =
        ⟨.raster, 4, 4, 0, ⟨20000, 0⟩, ⟨-80000, 20000⟩, ⟨0, 0⟩, ⟨-40000, -40000⟩, 2, .ends⟩
          :: List.replicate 7 ⟨.line, 0, 0, 0, ⟨0, 0⟩, ⟨0, 0⟩, ⟨0, 0⟩, ⟨0, 0⟩, 1, .ends⟩
    ∧ t.sensorOn = false ∧ t.lastFrame = none ∧ t.zones = []
    ∧ t.drive.state = .rest ∧ t.drive.faultCode = .none ∧ t.drive.further = false ∧ t.drive.moveHz = 0
    ∧ t.drive.moveV = 0 ∧ t.drive.parkPending = false ∧ t.drive.wakeLimit = none ∧ t.drive.moveLimit = none
    ∧ t.drive.dozeDelay = none
    ∧ t.orient.state = .oriented ∧ t.orient.offset = 0 ∧ t.orient.outCount = 0 ∧ t.orient.inCount = 0
    ∧ t.orient.tally = ⟨0, 0, none, []⟩
    ∧ t.flags = ⟨false, false, false, false, false, false, false, false⟩
    ∧ t.mask = ⟨false, false, false, false, false, false, false, false⟩ ∧ t.attn = false
    ∧ paramValues t.params = [3, 5, 25, 8000, 2000, 60, 600, 300, 10, 64, 40, 1200, 600, 3000, 4, 2, 65]
    ∧ t.axisOut = [.rest .hz, .rest .v] ∧ t.sensorOut = [.off] ∧ t.pending = s.pending)
  ∧ (StationOk State.reset ∧ CountdownsOk State.reset ∧ (∀ r ∈ State.reset.records, RecordOk r) ∧ RestOk State.reset
    ∧ DutyOk State.reset ∧ OrientOk State.reset)

/-! ## The link and the port -/

/-- Decode and encode agree: the body built for any request that can be spelled (FIGURE 108, FIGURE 109) is read back as
that request, with every operand. -/
def Obligations.RequestsParseBack : Prop :=
  (∀ (i : Instr) (code : Nat) (tag : Byte) (body : List Byte), i.wellFormed = true →
    requestParts i = some (code, tag, body) →
      code < 256 ∧ body.length ≤ 512 ∧ parseRequest code tag body = .request i)
  ∧ ∀ i : Instr, (requestParts i).isSome = (requestAct i).isSome

/-- A WRITE of the frame of a request that can be spelled does what that request does, and shifts out the status byte of
the fall of CS# (R185, R186). -/
def Obligations.WriteActsAsRequest : Prop :=
  ∀ (i : Instr) (code : Nat) (tag : Byte) (body : List Byte), i.wellFormed = true →
    requestParts i = some (code, tag, body) →
    ∀ (s : State) (cut : Nat) (published : Bool),
      ∃ t, exec i (if published then s.publish else s) = .next t
        ∧ exec (.write (requestFrame code tag body) cut published) s = .next { t with spiOut := [s.statusByte] }

/-- The checks of a WRITE (R186; the operands are log 5's): discarded while a request is processed at the rise of CS#; else
BAD_FRAME for a bad length or CRC, UNKNOWN_REQUEST for a code that is none of the 31, BAD_FIELD for a body of the wrong form
(R194). Each changes nothing but the port, also when processing ended during the transaction (R186).

A body of one of the 31 codes is read exactly when it has the form its request calls for (FIGURE 108). -/
def Obligations.WriteChecksFrame : Prop :=
  (∀ (f : List Byte) (cut : Nat) (published : Bool) (s : State),
    let framed : Prop := 6 ≤ f.length ∧ readU f 2 2 ≤ 512 ∧ f.length = 6 + readU f 2 2
      ∧ readU f (4 + readU f 2 2) 2 = (crc16 (f.take (4 + readU f 2 2))).toNat
    let answer := fun status : Status => exec (.write f cut published) s
      = .next { (s.answered (f.getD 1 0) status []) with spiOut := [s.statusByte] }
    (s.port.inHand ≠ none → published = false →
      exec (.write f cut published) s = .next { s with spiOut := [s.statusByte] })
    ∧ (s.port.inHand = none ∨ published = true →
        (¬ framed → answer .badFrame)
        ∧ (framed → readU f 0 1 ∉ requestCodes → answer .unknownRequest)
        ∧ (framed → readU f 0 1 ∈ requestCodes → ¬ bodyForm (readU f 0 1) (fieldAt f 4 (readU f 2 2)) →
            answer .badField)))
  ∧ (∀ (code : Nat) (tag : Byte) (body : List Byte), code ∈ requestCodes →
    ((∃ i, parseRequest code tag body = .request i) ↔ bodyForm code body))

/-- The transactions (R184, FIGURE 97): the host's first byte 0xA1 is a WRITE, 0xA2 a READ, and any other value a POLL,
which changes nothing and shifts out the status byte alone. POLL has no row in the table (log 5).

REPLY_PUBLISH (R185): the reply becomes the last reply with its read mark clear, and nothing else changes.

READ (R185): the status byte, then the last reply from its first byte and zeros beyond it; the read mark is set when
the whole frame has been clocked out. With no reply held, or while a request is processed, zeros and no change.

The reply frame (FIGURE 104, R193): status, tag, body length and body, then the CRC over all of it. The statuses have the
numbers 0 to 12 in the order of FIGURE 98. -/
def Obligations.ReplyPublishedAndRead : Prop :=
  (∀ (first : Byte) (frame : List Byte) (n cut clocks : Nat) (published : Bool) (s : State),
    exec (.write frame cut published) s = .next (s.transact 0xA1 frame n published)
    ∧ exec (.read clocks) s = .next (s.transact 0xA2 frame (clocks / 8) published)
    ∧ (first ≠ 0xA1 → first ≠ 0xA2 → s.transact first frame n published = { s with spiOut := [s.statusByte] }))
  ∧ (∀ s : State,
    (∀ r, s.port.inHand = some r → exec .replyPublish s = .next { s with port := ⟨none, some r, false⟩ })
    ∧ (s.port.inHand = none → exec .replyPublish s = .next s))
  ∧ (∀ (clocks : Nat) (s : State),
    (∀ r, s.port.inHand = none → s.port.last = some r →
      exec (.read clocks) s = .next { s with
        spiOut := s.statusByte :: (List.range (clocks / 8)).map (fun k => r.frame.getD k 0)
        port := ⟨none, some r, s.port.readMark || decide (r.frame.length ≤ clocks / 8)⟩ })
    ∧ (s.port.inHand ≠ none ∨ s.port.last = none →
      exec (.read clocks) s = .next { s with spiOut := s.statusByte :: List.replicate (clocks / 8) 0 })
    ∧ s.statusByte.toNat = (if s.port.inHand = none then 1 else 0)
        + (if s.port.last ≠ none ∧ s.port.readMark = false then 2 else 0))
  ∧ (∀ r : Reply, r.body.length ≤ 512 →
    r.frame.length = 6 + r.body.length ∧ r.frame.getD 0 0 = r.status.code ∧ r.frame.getD 1 0 = r.tag
      ∧ readU r.frame 2 2 = r.body.length ∧ fieldAt r.frame 4 r.body.length = r.body
      ∧ readU r.frame (4 + r.body.length) 2 = (crc16 (r.frame.take (4 + r.body.length))).toNat)
  ∧ [Status.ok, .badFrame, .unknownRequest, .badField, .notFound, .duplicate, .tableFull, .zoneFull, .busyPattern, .already,
      .held, .noJob, .wrongMode].map Status.code = [0, 1, 2, 3, 4, 5, 6, 7, 8, 9, 10, 11, 12]

/-- Every one of the 31 requests is taken when the port processes none, and changes nothing while it processes one (R185,
R186).

A request refused by its owner changes nothing and has no body (R186). -/
def Obligations.RequestsTakenOrRefused : Prop :=
  (∀ (i : Instr) (tag : Byte) (act : State → Answer) (s : State), requestAct i = some (tag, act) →
    (s.port.inHand = none → exec i s = .next ((act s).1.answered tag (act s).2.1 (act s).2.2))
    ∧ (s.port.inHand ≠ none → exec i s = .next s))
  ∧ (∀ (i : Instr) (tag : Byte) (act : State → Answer) (s : State), requestAct i = some (tag, act) →
    (act s).2.1 ≠ .ok → (act s).1 = s ∧ (act s).2.2 = [])

/-! ## Requests of the port, the clock and the attention unit -/

/-- IDENTIFY (R187): the value of FIGURE 100, 0 for any other index. -/
def Obligations.IdentifyAnswersItem : Prop :=
  ∀ (tag : Byte) (item : Nat) (s : State), s.port.inHand = none →
    exec (.identify tag item) s = .next (s.answered tag .ok (beU 2
      (if item = 0 then 0x2240 else if item = 1 then 3 else if item = 2 then 48 else if item = 3 then 12
        else if item = 4 then 8 else if item = 5 then 4 else if item = 6 then 4 else 0)))

/-- CONFIGURE (R188, R41): all or none; the values given are written, the others stand, and of the records only the
countdowns of LOST ones change, when LOST_RETRY goes from 0 or to 0 (FIGURE 18). The ranges are those of FIGURE 101.

READ CONFIGURATION (R188): the 17 values in the order of their numbers, 4 bytes each; nothing changes. -/
def Obligations.ConfigurationWrittenAndRead : Prop :=
  (∀ (tag : Byte) (pairs : List (Nat × Nat)) (s : State), s.port.inHand = none →
    let ranges : List (Nat × Nat) :=
      [(1, 15), (1, 15), (1, 255), (500, 20000), (0, 10000), (1, 600), (10, 3600), (0, 3600), (0, 600), (0, 1023),
       (1, 255), (0, 12000), (0, 12000), (1, 65535), (1, 15), (1, 8), (0, 65535)]
    let good : Prop := pairs.length ≤ 17 ∧ (pairs.map (·.1)).Nodup
      ∧ ∀ p ∈ pairs, 1 ≤ p.1 ∧ p.1 ≤ 17
        ∧ (ranges.getD (p.1 - 1) (0, 0)).1 ≤ p.2 ∧ p.2 ≤ (ranges.getD (p.1 - 1) (0, 0)).2
    (¬ good → exec (.configure tag pairs) s = .next (s.answered tag .badField []))
    ∧ (good → ∃ p : Params,
        (∀ x ∈ pairs, paramValue p x.1 = x.2)
        ∧ (∀ n, 1 ≤ n → n ≤ 17 → n ∉ pairs.map (·.1) → paramValue p n = paramValue s.params n)
        ∧ exec (.configure tag pairs) s = .next (({ s with
            params := p
            records := s.records.map fun r =>
              if r.state = .lost ∧ s.params.lostRetry = 0 ∧ p.lostRetry ≠ 0 then
                { r with countdown := some (p.lostRetry * 1000) }
              else if r.state = .lost ∧ s.params.lostRetry ≠ 0 ∧ p.lostRetry = 0 then { r with countdown := none }
              else r } : State).answered tag .ok [])))
  ∧ (∀ (tag : Byte) (s : State), s.port.inHand = none →
    ∃ body, exec (.readConfiguration tag) s = .next (s.answered tag .ok body) ∧ body.length = 68
      ∧ ∀ n, 1 ≤ n → n ≤ 17 → paramValue s.params n < 256 ^ 4 → readU body (4 * (n - 1)) 4 = paramValue s.params n)

/-- STATUS (R189, FIGURE 110): 34 bytes that give the modes and states as they stand, zeros for an absent job and an empty
slot, and the axis code only with AXIS_HZ and AXIS_V; nothing changes.

The numbers of the names it gives (R193): from 0 in the order of the table that defines them. -/
def Obligations.StatusAnswers : Prop :=
  (∀ (tag : Byte) (s : State), s.port.inHand = none →
    -halfTurn ≤ s.orient.offset → s.orient.offset < halfTurn →
    s.records.length ≤ 48 → s.zones.length ≤ 12 → (∀ n, (s.level n).length ≤ 49) →
    (∀ c ∈ s.job.toList ++ s.slots.contexts, c.target.getD 0 ≤ 65534 ∧ c.level ≤ 3) →
    ∃ body, exec (.status tag) s = .next (s.answered tag .ok body) ∧ body.length = 34
      ∧ body.getD 0 0 = s.mode.code ∧ body.getD 1 0 = s.orient.state.code ∧ readS body 2 4 = s.orient.offset
      ∧ body.getD 6 0 = s.drive.state.code ∧ body.getD 7 0 = s.drive.faultCode.code
      ∧ body.getD 8 0 = (if s.drive.faultCode = .axisHz ∨ s.drive.faultCode = .axisV then s.drive.axisCode else 0)
      ∧ body.getD 9 0 = (if s.drive.further then 1 else 0)
      ∧ (s.job = none → fieldAt body 10 6 = [0, 0, 0, 0, 0, 0])
      ∧ (∀ c, s.job = some c → body.getD 10 0 = 1 ∧ body.getD 11 0 = c.kind.code ∧ readU body 12 2 = c.target.getD 0
          ∧ readU body 14 1 = c.level ∧ body.getD 15 0 = c.phase.code)
      ∧ (∀ k, k ≤ 2 → (s.slots.get k = none → fieldAt body (16 + 4 * k) 4 = [0, 0, 0, 0])
          ∧ ∀ c, s.slots.get k = some c → body.getD (16 + 4 * k) 0 = 1 ∧ body.getD (17 + 4 * k) 0 = c.kind.code
            ∧ readU body (18 + 4 * k) 2 = c.target.getD 0)
      ∧ (∀ n, n ≤ 3 → readU body (28 + n) 1 = (s.level n).length)
      ∧ readU body 32 1 = s.records.length ∧ readU body 33 1 = s.zones.length)
  ∧ [StationMode.active, .doze, .parked].map StationMode.code = [0, 1, 2]
  ∧ [OrientState.oriented, .disturbed, .reorienting, .unoriented].map OrientState.code = [0, 1, 2, 3]
  ∧ [DriveState.rest, .waking, .ready, .slewing, .steering, .fault].map DriveState.code = [0, 1, 2, 3, 4, 5]
  ∧ [FaultCode.none, .wakeTimeout, .moveTimeout, .stallHz, .stallV, .axisHz, .axisV].map FaultCode.code
      = [0, 1, 2, 3, 4, 5, 6]
  ∧ [JobKind.visit, .track, .point].map JobKind.code = [0, 1, 2]
  ∧ [Phase.wake, .slew, .look, .confirm, .search, .dwell, .track, .coast, .hold].map Phase.code
      = [0, 1, 2, 3, 4, 5, 6, 7, 8]

/-- CLEAR STATION (R190): the tables, the list and the slots empty, the patterns at reset, PARKED with the park under way
unless the drive rests or is in FAULT, REORIENTING turned into UNORIENTED, the flags clear; the rest is kept, the filter counts of a
state that is kept and the move numbers among it (R183, R190). A drive that slews or steers is sent STOP before the park; that Hz
is sent before V is the model's choice (log 35).

That the stop request is made with no job in flight too is the model's reading (log 9). -/
def Obligations.ClearStationClears : Prop :=
  ∀ (tag : Byte) (s : State), s.port.inHand = none →
    ∃ t, exec (.clearStation tag) s = .next t ∧ t.answers tag .ok []
      ∧ t.job = none ∧ t.slots = ⟨none, none, none⟩ ∧ t.preempt = false ∧ t.records = [] ∧ t.due = [] ∧ t.zones = []
      ∧ t.patterns = resetPatterns ∧ t.mode = .parked ∧ t.sensorOn = false
      ∧ t.orient.state = (if s.orient.state = .reorienting then .unoriented else s.orient.state)
      ∧ t.orient.offset = s.orient.offset ∧ t.orient.tally = Tally.empty
      ∧ t.orient.outCount = (if s.orient.state = .reorienting then 0 else s.orient.outCount)
      ∧ t.orient.inCount = (if s.orient.state = .reorienting then 0 else s.orient.inCount)
      ∧ t.drive.moveHz = s.drive.moveHz
      ∧ (s.drive.state = .fault ∨ s.drive.state = .rest ∨ s.drive.state = .waking → t.drive.moveV = s.drive.moveV)
      ∧ t.flags = ⟨false, false, false, false, false, false, false, false⟩
      ∧ t.params = s.params ∧ t.mask = s.mask ∧ t.clock = s.clock
      ∧ (s.drive.state = .fault → t.drive.state = .fault ∧ t.drive.faultCode = s.drive.faultCode
          ∧ t.drive.axisCode = s.drive.axisCode ∧ t.drive.further = s.drive.further ∧ t.axisOut = s.axisOut)
      ∧ (s.drive.state = .rest → t.drive.state = .rest ∧ t.axisOut = s.axisOut)
      ∧ (s.drive.state = .waking → t.drive.state = .waking ∧ t.drive.parkPending = true ∧ t.axisOut = s.axisOut)
      ∧ (s.drive.state = .ready ∨ s.drive.state = .slewing ∨ s.drive.state = .steering →
          t.drive.state = .slewing ∧ t.drive.purpose = .park ∧ t.drive.parkPending = true)
      ∧ (s.drive.state = .ready → t.drive.moveV = s.drive.moveV + 1
          ∧ t.axisOut = s.axisOut ++ [.moveTo .v vHigh (s.drive.moveV + 1)])
      ∧ (s.drive.state = .slewing ∨ s.drive.state = .steering → StationOk s → RestOk s →
          t.drive.moveV = s.drive.moveV + 1
          ∧ t.axisOut = s.axisOut ++ [.stop .hz, .stop .v, .moveTo .v vHigh (s.drive.moveV + 1)])

/-- CLOCK READ (R43) and CLOCK SET (R44): the clock as it stands at the taking, also in the reply published later; the clock
loaded, and nothing else changed; a body that is not one clock value has the wrong form. -/
def Obligations.ClockReadAndSet : Prop :=
  ∀ (tag : Byte) (time : SiteTime) (s : State), s.port.inHand = none →
    exec (.clockRead tag) s = .next (s.answered tag .ok (beU 4 s.clock.toNat))
    ∧ (∀ later : State, later.port = (s.answered tag .ok (beU 4 s.clock.toNat)).port →
        exec .replyPublish later = .next { later with port := ⟨none, some ⟨.ok, tag, beU 4 s.clock.toNat⟩, false⟩ })
    ∧ exec (.clockSet tag time) s = .next (({ s with clock := time } : State).answered tag .ok [])
    ∧ ∀ body : List Byte, body.length ≠ 4 → parseRequest 0x41 tag body = .badForm

/-- ATTENTION READ, CLEAR and MASK (R192), and ATTN# (R191): bit 0 to bit 7 in the order of FIGURE 103.

No command but ATTENTION CLEAR, CLEAR STATION, POWER_ON, and a WRITE, which may carry one of the two requests, clears an
attention flag (R191). -/
def Obligations.AttentionFlagsAndMask : Prop :=
  (∀ (tag b : Byte) (s : State), s.port.inHand = none →
    exec (.attentionRead tag) s = .next (s.answered tag .ok [s.flags.toByte, s.mask.toByte])
    ∧ (∀ a : Attention, Attention.ofByte a.toByte = a)
    ∧ exec (.attentionClear tag b) s = .next (({ s with flags :=
        ⟨s.flags.news && !b.getLsbD 0, s.flags.displacement && !b.getLsbD 1, s.flags.lost && !b.getLsbD 2,
         s.flags.overdue && !b.getLsbD 3, s.flags.drive && !b.getLsbD 4, s.flags.level && !b.getLsbD 5,
         s.flags.orient && !b.getLsbD 6, s.flags.zone && !b.getLsbD 7⟩ } : State).answered tag .ok [])
    ∧ exec (.attentionMask tag b) s = .next (({ s with mask :=
        ⟨b.getLsbD 0, b.getLsbD 1, b.getLsbD 2, b.getLsbD 3, b.getLsbD 4, b.getLsbD 5, b.getLsbD 6, b.getLsbD 7⟩ } : State).answered
          tag .ok [])
    ∧ s.attn = ((s.flags.news && s.mask.news) || (s.flags.displacement && s.mask.displacement)
        || (s.flags.lost && s.mask.lost) || (s.flags.overdue && s.mask.overdue) || (s.flags.drive && s.mask.drive)
        || (s.flags.level && s.mask.level) || (s.flags.orient && s.mask.orient) || (s.flags.zone && s.mask.zone)))
  ∧ (∀ (c : Instr) (s t : State), exec c s = .next t →
    (∀ tag flags, c ≠ .attentionClear tag flags) → (∀ tag, c ≠ .clearStation tag) → c ≠ .powerOn →
    (∀ f cut p, c ≠ .write f cut p) → s.flags.within t.flags)

/-! ## Target records -/

/-- The three checks of TARGET ADD, in their order (R11).

A TARGET ADD that passes (R12): the record in the lowest free slot, DUE with reason ADDED, its entry at the tail of its
level, and then the arbiter's decision or test; the reply gives the slot. -/
def Obligations.TargetAddChecksAndCreates : Prop :=
  (∀ (tag : Byte) (id cls : Nat) (f : TargetFields) (s : State), s.port.inHand = none →
    (¬ addFieldsOk id cls f → exec (.targetAdd tag id cls f) s = .next (s.answered tag .badField []))
    ∧ (addFieldsOk id cls f → (∃ r ∈ s.records, r.id = id) →
        exec (.targetAdd tag id cls f) s = .next (s.answered tag .duplicate []))
    ∧ (addFieldsOk id cls f → (∀ r ∈ s.records, r.id ≠ id) → (∀ n < 48, ∃ r ∈ s.records, r.slot = n) →
        exec (.targetAdd tag id cls f) s = .next (s.answered tag .tableFull [])))
  ∧ (∀ (tag : Byte) (id cls slot : Nat) (f : TargetFields) (s : State), s.port.inHand = none →
    addFieldsOk id cls f → (∀ r ∈ s.records, r.id ≠ id) → slot < 48 → (∀ r ∈ s.records, r.slot ≠ slot) →
    (∀ n < slot, ∃ r ∈ s.records, r.slot = n) →
      exec (.targetAdd tag id cls f) s = .next ((({ s with
        records := insertRecord (addedRecord slot id cls f) s.records
        due := dueInsert ⟨(addedRecord slot id cls f).work, f.level.getD 0, .added, s.clock, false, none, none⟩
          s.due } : State).thenDecides).answered tag .ok [BitVec.ofNat 8 slot]))

/-- TARGET CHANGE (R13 to R17): refused with BAD_FIELD, NOT_FOUND, BAD_FIELD in that order, or every field named is written at
once, any number of them together.

With no new direction, or one for a record without a job or context, the fields written are all that happens (R14, R16, R17),
unless a new level moves the record's entry (R15, FIGURE 13): the entry of a DUE record goes to the tail of the new level, keeping
its reason and its deferral marks, unless VISIT NOW gave it a level, its reason is REORIENT or the level is the same; and an entry
that rises leads to the arbiter's decision or test.

That a direction named counts as new also when it equals the present one, so that the last confirmation, the residual and the rate
go then too, is the model's reading (log 13). -/
def Obligations.TargetChangeWrites : Prop :=
  ∀ (tag : Byte) (id : Nat) (cls : Option Nat) (absent : Bool) (f : TargetFields) (s : State), s.port.inHand = none →
    (¬ (1 ≤ id ∧ id ≤ 65534) →
      exec (.targetChange tag id cls absent f) s = .next (s.answered tag .badField []))
    ∧ (1 ≤ id → id ≤ 65534 → ¬ (absent = true ∧ f.band.isSome = true) → s.find id = none →
      exec (.targetChange tag id cls absent f) s = .next (s.answered tag .notFound []))
    ∧ ∀ r, 1 ≤ id → id ≤ 65534 → s.find id = some r →
      (¬ changeOk cls absent f r → exec (.targetChange tag id cls absent f) s = .next (s.answered tag .badField []))
      ∧ (changeOk cls absent f r → f.expected = none ∨ (s.jobIsFor id = false ∧ s.slotIsFor id = false) →
        let written : State := { s with
          records := s.records.map fun x => if x.id = id then changedRecord absent f x else x }
        let stays := fun e : Entry => e.levelGiven = true ∨ e.reason = .reorient ∨ e.level = f.level.getD e.level
        ((∀ e, s.entryOf id = some e → stays e) →
          exec (.targetChange tag id cls absent f) s = .next (written.answered tag .ok []))
        ∧ ∀ e l, s.entryOf id = some e → ¬ stays e → f.level = some l →
          let moved : State := { s with
            records := s.records.map fun x =>
              if x.id = id then { changedRecord absent f x with dueReason := some e.reason } else x
            due := dueInsert { e with level := l, joined := s.clock, levelGiven := false } (dropEntry id s.due) }
          exec (.targetChange tag id cls absent f) s
            = .next ((if e.level < l then moved.thenDecides else moved).answered tag .ok []))

/-- A new direction, alone or together with other fields (R17): written, with the last confirmation, the residual and the rate
removed; the work of an ACTIVE or SUSPENDED record ends SUPERSEDED, an ACTIVE one's with the stop request (R87, R165) and the start
decision after it; a record in another state keeps its state. That a direction equal to the old one counts as new is the model's
reading (log 13), and that STOP goes to Hz before V its choice (log 35). -/
def Obligations.TargetChangeNewDirection : Prop :=
  ∀ (tag : Byte) (id : Nat) (d : Dir) (absent : Bool) (f : TargetFields) (s : State) (r : TargetRecord),
    s.port.inHand = none → StationOk s → 1 ≤ id → id ≤ 65534 → s.find id = some r → f.expected = some d →
    changeOk none absent f r →
    ∃ t r', exec (.targetChange tag id none absent f) s = .next t ∧ t.answers tag .ok [] ∧ t.find id = some r'
      ∧ r'.host = (changedRecord absent f r).host ∧ r'.expected = d ∧ r'.confirmation = none ∧ r'.residual = none
      ∧ r'.rate = none ∧ r'.missCount = r.missCount
      ∧ (r.state = .active ∨ r.state = .suspended →
          r'.lastEnd = some .superseded ∧ (r'.state = .due ∨ r'.state = .active))
      ∧ (r.state = .active →
          ∃ u, t = u.thenStarts.answered tag .ok [] ∧ stopsAxes s u ∧ u.job = none ∧ u.slots = s.slots ∧ u.mode = s.mode)
      ∧ (r.state ≠ .active → r.state ≠ .suspended → f.level = none →
          t = { s with port := t.port, records := t.records } ∧ r'.state = r.state ∧ r'.lastEnd = r.lastEnd
            ∧ r'.countdown = (changedRecord absent f r).countdown)

/-- TARGET READ and TARGET LIST (R18): the record image of 80 bytes (FIGURE 106): every field of the record and of its
entry, 0 where it is absent, and the presence word with a bit for every optional group; the ids in slot order; nothing
changes. An id out of range is refused with BAD_FIELD, and one that no record carries with NOT_FOUND (R4).

The numbers of the names the image gives (R193): from 0 in the order of the table that defines them. -/
def Obligations.TargetReadAndList : Prop :=
  (∀ (tag : Byte) (id : Nat) (s : State), s.port.inHand = none →
    (∀ r, 1 ≤ id → id ≤ 65534 → s.find id = some r → RecordOk r → r.countdown.getD 0 < 2 ^ 32 →
      (∀ x, r.confirmation = some x → fits32 x.dir.hz ∧ fits32 x.dir.v ∧ x.strength < 2 ^ 16) →
      (∀ x, r.residual = some x → fits32 x.hz ∧ fits32 x.v) → (∀ x, r.rate = some x → fits32 x.hz ∧ fits32 x.v) →
      ∃ body, exec (.targetRead tag id) s = .next (s.answered tag .ok body) ∧ body.length = 80
        ∧ readU body 0 1 = r.slot ∧ readU body 1 2 = id ∧ body.getD 3 0 = r.fields.cls.code
        ∧ body.getD 4 0 = r.state.code ∧ readU body 5 1 = r.level
        ∧ readS body 8 4 = r.expected.hz ∧ readS body 12 4 = r.expected.v
        ∧ readU body 16 2 = (r.fields.fixed?.map (·.tolerance)).getD 0 ∧ readU body 18 2 = r.gate
        ∧ readU body 20 4 = (r.fields.fixed?.map (·.interval)).getD 0 ∧ readU body 24 2 = r.fields.quantum?.getD 0
        ∧ readU body 26 2 = (r.fields.fixed?.map (·.dwell)).getD 0 ∧ readU body 28 1 = r.pattern
        ∧ body.getD 29 0 = r.notify.code ∧ readU body 30 2 = (r.band.map (·.lo)).getD 0
        ∧ readU body 32 2 = (r.band.map (·.hi)).getD 0 ∧ readU body 34 4 = r.countdown.getD 0
        ∧ readS body 38 4 = (r.confirmation.map (·.dir.hz)).getD 0 ∧ readS body 42 4 = (r.confirmation.map (·.dir.v)).getD 0
        ∧ readU body 46 4 = (r.confirmation.map (·.time.toNat)).getD 0
        ∧ readU body 50 2 = (r.confirmation.map (·.strength)).getD 0
        ∧ readS body 52 4 = (r.residual.map (·.hz)).getD 0 ∧ readS body 56 4 = (r.residual.map (·.v)).getD 0
        ∧ readS body 60 4 = (r.rate.map (·.hz)).getD 0 ∧ readS body 64 4 = (r.rate.map (·.v)).getD 0
        ∧ readU body 68 1 = r.missCount
        ∧ (∀ k, (body.getD 69 0).getLsbD k = [r.flags.displaced, r.flags.ambiguous, r.flags.deferred, r.flags.overdue,
            r.flags.unoriented, r.flags.news].getD k false)
        ∧ body.getD 70 0 = (r.dueReason.map Reason.code).getD 0 ∧ body.getD 71 0 = (r.lastEnd.map EndReason.code).getD 0
        ∧ readU body 72 4 = ((s.entryOf id).map (·.joined.toNat)).getD 0
        ∧ readU body 76 4 = (((s.entryOf id).bind (·.deferredSince)).map BitVec.toNat).getD 0
        ∧ (∀ k, (readU body 6 2).testBit k = [r.fields.fixed?.isSome, r.fields.quantum?.isSome, r.band.isSome,
            r.countdown.isSome, r.confirmation.isSome, r.residual.isSome, r.rate.isSome, r.dueReason.isSome,
            r.lastEnd.isSome, (s.entryOf id).isSome, ((s.entryOf id).bind (·.deferredSince)).isSome].getD k false))
    ∧ (¬ (1 ≤ id ∧ id ≤ 65534) → exec (.targetRead tag id) s = .next (s.answered tag .badField []))
    ∧ (1 ≤ id → id ≤ 65534 → s.find id = none →
      exec (.targetRead tag id) s = .next (s.answered tag .notFound []))
    ∧ exec (.targetList tag) s
        = .next (s.answered tag .ok (BitVec.ofNat 8 s.records.length :: s.records.flatMap fun r => beU 2 r.id)))
  ∧ [TargetClass.static, .reference, .moving].map TargetClass.code = [0, 1, 2]
  ∧ [RecordState.waiting, .due, .active, .suspended, .lost, .held].map RecordState.code = [0, 1, 2, 3, 4, 5]
  ∧ [Notify.none, .acquire, .loss, .both].map Notify.code = [0, 1, 2, 3]
  ∧ [Reason.added, .schedule, .retry, .host, .reorient].map Reason.code = [0, 1, 2, 3, 4]
  ∧ [EndReason.confirmed, .displaced, .ambiguous, .notFound, .yielded, .released, .expired, .replaced, .superseded,
      .shadowed, .retired, .held, .disturbed, .parked, .driveFault, .cleared].map EndReason.code
      = [0, 1, 2, 3, 4, 5, 6, 7, 8, 9, 10, 11, 12, 13, 14, 15]

/-- TARGET RETIRE (R19): the record and its countdown, entry, job or context are gone; the other records keep their host's
fields. An ACTIVE record's job ends with the stop request (R87, R165) and the start decision after it; for a SUSPENDED record no
command is sent, which is the model's reading (log 8). That STOP goes to Hz before V is its choice (log 35). An id out of range is
refused with BAD_FIELD, and one that no record carries with NOT_FOUND (R4). -/
def Obligations.TargetRetireRemoves : Prop :=
  (∀ (tag : Byte) (id : Nat) (s : State), s.port.inHand = none →
    (¬ (1 ≤ id ∧ id ≤ 65534) → exec (.targetRetire tag id) s = .next (s.answered tag .badField []))
    ∧ (1 ≤ id → id ≤ 65534 → s.find id = none → exec (.targetRetire tag id) s = .next (s.answered tag .notFound [])))
  ∧ ∀ (tag : Byte) (id : Nat) (s : State) (r : TargetRecord), s.port.inHand = none → 1 ≤ id → id ≤ 65534 →
    s.find id = some r →
    ∃ t, exec (.targetRetire tag id) s = .next t ∧ t.answers tag .ok [] ∧ t.find id = none ∧ t.entryOf id = none
      ∧ t.jobIsFor id = false ∧ t.slotIsFor id = false ∧ id ∉ t.orient.tally.ids
      ∧ t.records.map TargetRecord.host = (s.records.map TargetRecord.host).filter (fun h => h.id != id)
      ∧ t.mode = s.mode ∧ t.clock = s.clock ∧ t.params = s.params ∧ t.patterns = s.patterns ∧ t.zones = s.zones
      ∧ t.mask = s.mask
      ∧ (StationOk s → r.state = .active →
          ∃ u, t = u.thenStarts.answered tag .ok [] ∧ stopsAxes s u ∧ u.job = none ∧ u.slots = s.slots ∧ u.find id = none)
      ∧ (StationOk s → r.state = .suspended → t.axisOut = s.axisOut ∧ t.job = s.job)

/-- TARGET HOLD (R20): the record is HELD from any state, without countdown, entry, job or context; HELD becomes the last
end when its job or context ended so; the miss count and the groups are kept. An ACTIVE record's job ends with the stop request (R87,
R165) and the start decision after it; for a SUSPENDED record no command is sent, which is the model's reading (log 8). That STOP
goes to Hz before V is its choice (log 35). An id out of range is refused with BAD_FIELD, and one that no record carries with
NOT_FOUND (R4). -/
def Obligations.TargetHoldHolds : Prop :=
  (∀ (tag : Byte) (id : Nat) (s : State), s.port.inHand = none →
    (¬ (1 ≤ id ∧ id ≤ 65534) → exec (.targetHold tag id) s = .next (s.answered tag .badField []))
    ∧ (1 ≤ id → id ≤ 65534 → s.find id = none → exec (.targetHold tag id) s = .next (s.answered tag .notFound [])))
  ∧ ∀ (tag : Byte) (id : Nat) (s : State) (r : TargetRecord), s.port.inHand = none → StationOk s → 1 ≤ id →
    id ≤ 65534 → s.find id = some r →
    ∃ t r', exec (.targetHold tag id) s = .next t ∧ t.answers tag .ok [] ∧ t.find id = some r' ∧ r'.state = .held
      ∧ (r.state ≠ .held → r'.countdown = none) ∧ t.entryOf id = none ∧ t.jobIsFor id = false ∧ t.slotIsFor id = false
      ∧ r'.host = r.host ∧ r'.missCount = r.missCount ∧ r'.confirmation = r.confirmation ∧ r'.residual = r.residual
      ∧ r'.rate = r.rate
      ∧ r'.lastEnd = (if r.state = .active ∨ r.state = .suspended then some .held else r.lastEnd)
      ∧ (r.state = .active →
          t = (s.finishJob .held).thenStarts.answered tag .ok [] ∧ stopsAxes s (s.finishJob .held)
            ∧ (s.finishJob .held).job = none)
      ∧ (r.state = .suspended → t.axisOut = s.axisOut ∧ t.job = s.job ∧ t.drive = s.drive)

/-- TARGET RESUME (R21): a HELD record becomes DUE with reason HOST at the tail of its level; any other is refused with
WRONG_MODE, an unknown id with NOT_FOUND, an id out of range with BAD_FIELD (R4). -/
def Obligations.TargetResumeMakesDue : Prop :=
  ∀ (tag : Byte) (id : Nat) (s : State), s.port.inHand = none →
    (¬ (1 ≤ id ∧ id ≤ 65534) → exec (.targetResume tag id) s = .next (s.answered tag .badField []))
    ∧ (1 ≤ id → id ≤ 65534 → ∀ r, s.find id = some r → r.state = .held →
      exec (.targetResume tag id) s = .next (((s.joined r .host r.level false).thenDecides).answered tag .ok []))
    ∧ (1 ≤ id → id ≤ 65534 → ∀ r, s.find id = some r → r.state ≠ .held →
      exec (.targetResume tag id) s = .next (s.answered tag .wrongMode []))
    ∧ (1 ≤ id → id ≤ 65534 → s.find id = none → exec (.targetResume tag id) s = .next (s.answered tag .notFound []))

/-- CLEAR FLAGS (R30): the flags named of DISPLACED, AMBIGUOUS, OVERDUE and UNORIENTED are cleared; a subset with DEFERRED,
NEWS or a bit that names no flag is refused with BAD_FIELD, and so is an id out of range (R4); an unknown id with NOT_FOUND. -/
def Obligations.ClearFlagsClearsNamed : Prop :=
  ∀ (tag : Byte) (id : Nat) (b : Byte) (s : State), s.port.inHand = none →
    let nameable : Prop := b.toNat < 64 ∧ b.getLsbD 2 = false ∧ b.getLsbD 5 = false
    (¬ (1 ≤ id ∧ id ≤ 65534) → exec (.clearFlags tag id b) s = .next (s.answered tag .badField []))
    ∧ (¬ nameable → 1 ≤ id → id ≤ 65534 → ∀ r, s.find id = some r →
      exec (.clearFlags tag id b) s = .next (s.answered tag .badField []))
    ∧ (nameable → 1 ≤ id → id ≤ 65534 → ∀ r, s.find id = some r →
      exec (.clearFlags tag id b) s = .next (({ s with
        records := s.records.map fun x => if x.id = id then { x with flags := { x.flags with
          displaced := x.flags.displaced && !b.getLsbD 0
          ambiguous := x.flags.ambiguous && !b.getLsbD 1
          overdue := x.flags.overdue && !b.getLsbD 3
          unoriented := x.flags.unoriented && !b.getLsbD 4 } } else x } : State).answered tag .ok []))
    ∧ (nameable → 1 ≤ id → id ≤ 65534 → s.find id = none →
      exec (.clearFlags tag id b) s = .next (s.answered tag .notFound []))

/-- CHANGED LIST (R29): the first 16 records with NEWS in slot order are listed and lose their NEWS; the last byte says
whether any record still has NEWS; the NEWS attention flag stands. -/
def Obligations.ChangedListTakesNews : Prop :=
  ∀ (tag : Byte) (s : State), s.port.inHand = none → (s.records.map (·.id)).Nodup →
    let ids := ((s.records.filter fun r => r.flags.news).take 16).map (·.id)
    exec (.changedList tag) s = .next (({ s with
      records := s.records.map fun r => if r.id ∈ ids then { r with flags := { r.flags with news := false } } else r
      } : State).answered tag .ok (BitVec.ofNat 8 ids.length :: (ids.flatMap fun x => beU 2 x)
        ++ [if 16 < (s.records.filter fun r => r.flags.news).length then 1 else 0]))

/-- VISIT NOW by record state (R65, FIGURE 31). A level or an id out of range is refused with BAD_FIELD (R4). -/
def Obligations.VisitNowByState : Prop :=
  ∀ (tag : Byte) (id : Nat) (level : Option Nat) (s : State), s.port.inHand = none →
    (¬ (1 ≤ id ∧ id ≤ 65534) → exec (.visitNow tag id level) s = .next (s.answered tag .badField []))
    ∧ (∀ l, level = some l → 3 < l → exec (.visitNow tag id level) s = .next (s.answered tag .badField []))
    ∧ (1 ≤ id → id ≤ 65534 → (∀ l, level = some l → l ≤ 3) →
      (s.find id = none → exec (.visitNow tag id level) s = .next (s.answered tag .notFound []))
      ∧ ∀ r, s.find id = some r →
        (r.state = .waiting ∨ r.state = .lost →
          exec (.visitNow tag id level) s
            = .next (((s.joined r .host (level.getD r.level) level.isSome).thenDecides).answered tag .ok []))
        ∧ (∀ e, r.state = .due → r.dueReason ≠ some .reorient → s.entryOf id = some e →
          let s' : State := { s with
            records := s.records.map fun x => if x.id = id then { x with dueReason := some .host } else x
            due := dueInsert { e with
              level := level.getD r.level, reason := .host, levelGiven := level.isSome
              joined := if e.level = level.getD r.level then e.joined else s.clock } (dropEntry id s.due) }
          exec (.visitNow tag id level) s
            = .next ((if e.level < level.getD r.level then s'.thenDecides else s').answered tag .ok []))
        ∧ (r.state = .due → r.dueReason = some .reorient →
          exec (.visitNow tag id level) s = .next (s.answered tag .already []))
        ∧ (r.state = .active ∨ r.state = .suspended →
          exec (.visitNow tag id level) s = .next (s.answered tag .already []))
        ∧ (r.state = .held → exec (.visitNow tag id level) s = .next (s.answered tag .held [])))

/-! ## Zones and patterns -/

/-- ZONE SET (R150): its checks, and the zone in the table with its lifetime loaded, the others standing; a new GLARE zone
does nothing more than settle the doze delay (R151, R152).

Its neighbours are told in the order of R151: for a zone replaced, the search that waits, then the test of the job against
a SHADOW zone, then the Arbiter; for a new zone the test alone. The shadow test of R138 for a job that stays in TRACK is taken
after that of R152, which is the model's reading of FIGURE 71 beside FIGURE 78 (log 10).

The test of the job in flight (R152, FIGURE 78): in WAKE, SLEW, LOOK or a CONFIRM entered from LOOK, a VISIT or TRACK whose aim
is covered ends SHADOWED and the start decision follows; in TRACK, COAST when the prediction is covered (FIGURE 71); elsewhere,
and for a direction not covered, nothing.

The shadow test of R138 at a SHADOW zone set (FIGURE 71): in TRACK a prediction inside a SHADOW zone sets the mark, and outside
every one it is unchanged (log 10).

What a SHADOWED end leaves of the record (R26) and of the drive (R87, R165); that STOP goes to Hz before V is log 35. -/
def Obligations.ZoneSetPlacesAndTells : Prop :=
  (∀ (tag : Byte) (f : ZoneFields) (s : State), s.port.inHand = none →
    let ok : Prop := 1 ≤ f.id ∧ f.id ≤ 255 ∧ (f.kind = 0 ∨ f.kind = 1) ∧ 0 ≤ f.hzFrom ∧ f.hzFrom < turn ∧ 0 ≤ f.hzTo
      ∧ f.hzTo < turn ∧ 0 ≤ f.vLow ∧ f.vLow ≤ f.vHigh ∧ f.vHigh ≤ halfTurn ∧ f.lifetime ≤ 86400
    let z : Zone := ⟨f.id, if f.kind = 0 then .shadow else .glare, f.hzFrom, f.hzTo, f.vLow, f.vHigh, f.lifetime,
      if f.lifetime = 0 then none else some (f.lifetime * 1000)⟩
    (¬ ok → exec (.zoneSet tag f) s = .next (s.answered tag .badField []))
    ∧ (ok → s.findZone f.id = none → 12 ≤ s.zones.length →
        exec (.zoneSet tag f) s = .next (s.answered tag .zoneFull []))
    ∧ (ok → (s.findZone f.id).isSome = true ∨ s.zones.length < 12 →
        ∃ t, exec (.zoneSet tag f) s = .next t ∧ t.answers tag .ok [] ∧ t.findZone f.id = some z
          ∧ (∀ id, id ≠ f.id → t.findZone id = s.findZone id)
          ∧ t.mode = s.mode ∧ t.clock = s.clock ∧ t.params = s.params ∧ t.patterns = s.patterns ∧ t.mask = s.mask
          ∧ t.records.map TargetRecord.host = s.records.map TargetRecord.host
          ∧ (s.findZone f.id = none → f.kind = 1 → t = ({ s with zones := t.zones, port := t.port } : State).settleDoze)))
  ∧ (∀ (tag : Byte) (f : ZoneFields) (z : Zone) (s : State), s.port.inHand = none → ZoneFields.toZone f = some z →
    let placed : State := { s with zones := insertZone z (dropZone z.id s.zones) }
    (s.findZone z.id = none → s.zones.length < 12 → exec (.zoneSet tag f) s
      = .next (((if z.kind = .shadow then (placed.testAgainstZone z).testShadowMark else placed).settleDoze).answered tag .ok []))
    ∧ ((s.findZone z.id).isSome = true →
      let told := placed.wakeWaitingSearch
      exec (.zoneSet tag f) s
        = .next (((if z.kind = .shadow then (told.testAgainstZone z).testShadowMark else told).thenDecides).answered
            tag .ok [])))
  ∧ (∀ (s : State) (z : Zone),
    (s.job = none → s.testAgainstZone z = s)
    ∧ ∀ c, s.job = some c →
      let before : Prop := c.phase = .wake ∨ c.phase = .slew ∨ c.phase = .look
        ∨ (c.phase = .confirm ∧ c.origin = some .look)
      (c.kind ≠ .point → before → z.contains c.aim = true → s.testAgainstZone z = (s.finishJob .shadowed).startDecision)
      ∧ (c.kind ≠ .point → before → z.contains c.aim = false → s.testAgainstZone z = s)
      ∧ (c.kind = .point ∨ (c.phase = .confirm ∧ c.origin ≠ some .look) ∨ c.phase = .search ∨ c.phase = .dwell
          ∨ c.phase = .coast ∨ c.phase = .hold → s.testAgainstZone z = s)
      ∧ (∀ id r, c.kind = .track → c.phase = .track → c.target = some id → s.find id = some r →
        (z.contains (r.prediction s.clock) = true → s.testAgainstZone z = (s.enterCoast c).decideIfIdle)
        ∧ (z.contains (r.prediction s.clock) = false → s.testAgainstZone z = s)))
  ∧ (∀ s : State,
    ((∀ c, s.job = some c → c.phase ≠ .track) → s.testShadowMark = s)
    ∧ ∀ c id r, s.job = some c → c.phase = .track → c.target = some id → s.find id = some r →
      (inZones s.zones .shadow (r.prediction s.clock) = true →
        s.testShadowMark = { s with job := some { c with shadowMark := true } })
      ∧ (inZones s.zones .shadow (r.prediction s.clock) = false → s.testShadowMark = s))
  ∧ (∀ (s : State) (c : JobContext) (id : Nat) (r : TargetRecord), StationOk s → s.job = some c → c.target = some id →
    s.find id = some r → c.reason ≠ .reorient →
    (s.finishJob .shadowed).job = none
    ∧ (s.finishJob .shadowed).find id = some { r with
        state := .due, countdown := none, dueReason := some .schedule, lastEnd := some .shadowed }
    ∧ (s.finishJob .shadowed).due = dueInsert ⟨r.work, r.level, .schedule, s.clock, false, none, none⟩ s.due)
  ∧ (∀ (s : State) (c : JobContext), s.job = some c → stopsAxes s (s.finishJob .shadowed))

/-- The direction lies inside a zone (R149): the Hz offset from the zone's start along the increasing direction is no more
than the span's, and the V lies in the range, edges included.

The prediction of a MOVING record (R131). -/
def Obligations.ZoneTestAndPrediction : Prop :=
  (∀ (z : Zone) (d : Dir), 0 ≤ z.hzFrom → z.hzFrom < turn → 0 ≤ z.hzTo → z.hzTo < turn → 0 ≤ d.hz → d.hz < turn →
    (z.contains d = true ↔
      (z.vLow ≤ d.v ∧ d.v ≤ z.vHigh)
      ∧ ((z.hzFrom ≤ z.hzTo ∧ z.hzFrom ≤ d.hz ∧ d.hz ≤ z.hzTo)
        ∨ (z.hzTo < z.hzFrom ∧ (z.hzFrom ≤ d.hz ∨ d.hz ≤ z.hzTo)))))
  ∧ (∀ (r : TargetRecord) (t : SiteTime),
    (r.confirmation = none → r.prediction t = r.expected)
    ∧ ∀ c, r.confirmation = some c →
      (r.rate = none → r.prediction t = ⟨c.dir.hz, max vLow (min vHigh c.dir.v)⟩)
      ∧ ∀ rate, r.rate = some rate →
        r.prediction t = ⟨(c.dir.hz + (rate.hz * ((t - c.time).toNat : Int)).tdiv 1000) % turn,
          max vLow (min vHigh (c.dir.v + (rate.v * ((t - c.time).toNat : Int)).tdiv 1000))⟩)

/-- ZONE RETIRE and ZONE_LIFETIME_EXPIRY (R154, R155): the zone is removed, a search that waits is told, then the arbiter;
the expiry also sets the ZONE attention flag, and happens only to a zone whose lifetime runs. An id out of range is refused
with BAD_FIELD, and one that no zone carries with NOT_FOUND.

That an expiry which names no running lifetime changes nothing is the model's choice (log 2, log 22). -/
def Obligations.ZoneRemoved : Prop :=
  (∀ (tag : Byte) (id : Nat) (s : State), s.port.inHand = none →
    (¬ (1 ≤ id ∧ id ≤ 255) → exec (.zoneRetire tag id) s = .next (s.answered tag .badField []))
    ∧ (1 ≤ id → id ≤ 255 → s.findZone id = none → exec (.zoneRetire tag id) s = .next (s.answered tag .notFound []))
    ∧ ∀ z, 1 ≤ id → id ≤ 255 → s.findZone id = some z →
      exec (.zoneRetire tag id) s = .next (((({ s with zones := s.zones.filter fun x => x.id != id
        } : State).wakeWaitingSearch).thenDecides).answered tag .ok []))
  ∧ (∀ (id : Nat) (s : State),
    (s.findZone id = none → exec (.zoneLifetimeExpiry id) s = .next s)
    ∧ ∀ z, s.findZone id = some z →
      (z.remaining ≠ none → exec (.zoneLifetimeExpiry id) s = .next ((({ s with
          zones := s.zones.filter (fun x => x.id != id)
          flags := { s.flags with zone := true } } : State).wakeWaitingSearch).thenDecides))
      ∧ (z.remaining = none → exec (.zoneLifetimeExpiry id) s = .next s))

/-- ZONE READ (R156).

PATTERN READ (R99).

The numbers of the kinds, modes and ends they give (R193). -/
def Obligations.ZoneAndPatternRead : Prop :=
  (∀ (tag : Byte) (id : Nat) (s : State), s.port.inHand = none →
    (¬ (1 ≤ id ∧ id ≤ 255) → exec (.zoneRead tag id) s = .next (s.answered tag .badField []))
    ∧ (1 ≤ id → id ≤ 255 → s.findZone id = none → exec (.zoneRead tag id) s = .next (s.answered tag .notFound []))
    ∧ ∀ z, 1 ≤ id → id ≤ 255 → s.findZone id = some z →
      exec (.zoneRead tag id) s = .next (s.answered tag .ok
        (beU 1 z.id ++ [z.kind.code] ++ beS 4 z.hzFrom ++ beS 4 z.hzTo ++ beS 4 z.vLow ++ beS 4 z.vHigh
          ++ beU 4 z.lifetime
          ++ (match z.remaining with
              | none => [0, 0, 0, 0, 0]
              | some ms => 1 :: beU 4 ms))))
  ∧ (∀ (tag : Byte) (n : Nat) (s : State), s.port.inHand = none → s.patterns.length = 8 →
    (7 < n → exec (.patternRead tag n) s = .next (s.answered tag .badField []))
    ∧ ∀ p, s.patterns[n]? = some p →
      exec (.patternRead tag n) s = .next (s.answered tag .ok
        (beU 1 n ++ [p.mode.code] ++ beU 1 p.innerCount ++ beU 1 p.middleCount ++ beU 1 p.outerCount
          ++ beS 4 p.innerStep.hz ++ beS 4 p.innerStep.v ++ beS 4 p.middleStep.hz ++ beS 4 p.middleStep.v
          ++ beS 4 p.outerStep.hz ++ beS 4 p.outerStep.v ++ beS 4 p.start.hz ++ beS 4 p.start.v
          ++ beU 1 p.framesPerProbe ++ [p.ending.code])))
  ∧ [ZoneKind.shadow, .glare].map ZoneKind.code = [0, 1]
  ∧ [PatternMode.line, .raster, .stack].map PatternMode.code = [0, 1, 2]
  ∧ [PatternEnd.ends, .repeats].map PatternEnd.code = [0, 1]

/-- PATTERN LOAD (R97): the fields first, then BUSY_PATTERN, else the whole record replaced. -/
def Obligations.PatternLoadReplaces : Prop :=
  ∀ (tag : Byte) (n : Nat) (f : PatternFields) (s : State), s.port.inHand = none →
    let stepOk := fun o : Offset => -1000000 ≤ o.hz ∧ o.hz ≤ 1000000 ∧ -1000000 ≤ o.v ∧ o.v ≤ 1000000
    let ok : Prop := n ≤ 7 ∧ f.mode ≤ 2 ∧ f.ending ≤ 1 ∧ f.innerCount ≤ 63 ∧ f.middleCount ≤ 63 ∧ f.outerCount ≤ 15
      ∧ stepOk f.innerStep ∧ stepOk f.middleStep ∧ stepOk f.outerStep ∧ stepOk f.start
      ∧ 1 ≤ f.framesPerProbe ∧ f.framesPerProbe ≤ 8
    let busy : Prop :=
      (∃ c ∈ s.job, c.patternNumber = n ∧ (c.phase = .search ∨ (c.phase = .confirm ∧ c.origin = some .search)))
      ∨ ∃ c ∈ s.slots.contexts, c.patternNumber = n ∧ c.phase = .search
    (¬ ok → exec (.patternLoad tag n f) s = .next (s.answered tag .badField []))
    ∧ (ok → busy → exec (.patternLoad tag n f) s = .next (s.answered tag .busyPattern []))
    ∧ (ok → ¬ busy → exec (.patternLoad tag n f) s = .next (({ s with
        patterns := s.patterns.set n
          ⟨if f.mode = 0 then .line else if f.mode = 1 then .raster else .stack, f.innerCount, f.middleCount,
            f.outerCount, f.innerStep, f.middleStep, f.outerStep, f.start, f.framesPerProbe,
            if f.ending = 0 then .ends else .repeats⟩ } : State).answered tag .ok []))

/-- The advance of a search (R102, FIGURE 52): which step is added to the offset, which counters are reloaded from the
pattern copy, and which probe is the last of its pass.

A pass steps through every probe of its pattern once (FIGURE 53): a new pass has the product of the counts plus one each of its
mode, and every advance leaves one probe fewer.

Bringing a probe into hand (R103 to R105): a probe that is skipped makes its advance at the same event; one that is not is
slewed to and sets the pass slewed mark; at the end of a pass ENDS is over, and REPEATS begins anew with the mark cleared, or
waits when the whole pass was skipped. A probe is skipped when its V is outside the limits or a SHADOW zone covers it.

What each result does to the job: a slew, WAITING without a command, or NOT_FOUND; and the end of a WAITING stage (R105). -/
def Obligations.SearchPassCounts : Prop :=
  (∀ st : SearchState,
    let plus := fun a b : Offset => (⟨a.hz + b.hz, a.v + b.v⟩ : Offset)
    let p := st.pattern
    (0 < st.inner → st.advance = some { st with
      inner := st.inner - 1, offset := plus st.offset p.innerStep, frames := 0 })
    ∧ (st.inner = 0 → p.mode = .line → st.advance = none)
    ∧ (st.inner = 0 → p.mode ≠ .line → 0 < st.middle → st.advance = some { st with
      inner := p.innerCount, middle := st.middle - 1, offset := plus st.offset p.middleStep, frames := 0 })
    ∧ (st.inner = 0 → st.middle = 0 → p.mode = .raster → st.advance = none)
    ∧ (st.inner = 0 → st.middle = 0 → p.mode = .stack → 0 < st.outer → st.advance = some { st with
      inner := p.innerCount, middle := p.middleCount, outer := st.outer - 1, offset := plus st.offset p.outerStep
      frames := 0 })
    ∧ (st.inner = 0 → st.middle = 0 → st.outer = 0 → st.advance = none)
    ∧ st.restart = { st with
      inner := p.innerCount, middle := p.middleCount, outer := p.outerCount, offset := p.start, frames := 0 }
    ∧ (st.restart.probesLeft = match p.mode with
      | .line => p.innerCount + 1
      | .raster => (p.innerCount + 1) * (p.middleCount + 1)
      | .stack => (p.innerCount + 1) * (p.middleCount + 1) * (p.outerCount + 1))
    ∧ ∀ st', st.advance = some st' → st'.probesLeft + 1 = st.probesLeft)
  ∧ (∀ (st : SearchState) (skip : Dir → Bool),
    let here : Dir := ⟨(st.centre.hz + st.offset.hz) % turn, st.centre.v + st.offset.v⟩
    (skip here = false → st.test skip = .slew { st with stage := .slewing, frames := 0, passSlewed := true })
    ∧ (skip here = true → st.test skip = st.next skip)
    ∧ (∀ st', st.advance = some st' → st.next skip = st'.test skip)
    ∧ (st.advance = none → st.pattern.ending = .ends → st.next skip = .over)
    ∧ (st.advance = none → st.pattern.ending = .repeats → st.passSlewed = true →
        st.next skip = ({ st.restart with passSlewed := false } : SearchState).test skip)
    ∧ (st.advance = none → st.pattern.ending = .repeats → st.passSlewed = false →
        st.next skip = .wait { st.restart with stage := .waiting, passSlewed := false }))
  ∧ (∀ (s : State) (c : JobContext) (st : SearchState),
    let back : JobContext := { c with
      phase := .search, search := some st, sums := none, origin := none, reference := none, coastLeft := none }
    (∀ d : Dir, s.skips d = true ↔ d.v < vLow ∨ vHigh < d.v ∨ ∃ z ∈ s.zones, z.kind = .shadow ∧ z.contains d = true)
    ∧ s.placeProbe c (.slew st) = ({ s with job := some back } : State).requestMove
        ⟨(st.centre.hz + st.offset.hz) % turn, st.centre.v + st.offset.v⟩ c.config.moveLimit
    ∧ s.placeProbe c (.wait st) = { s with job := some back }
    ∧ s.placeProbe c .over = ({ s with job := some c } : State).finishJob .notFound
    ∧ (s.job = some c → c.phase = .search → c.search = some st → st.stage = .waiting →
        s.wakeWaitingSearch = s.placeProbe c (({ st with passSlewed := false } : SearchState).test s.skips))
    ∧ (s.job = some c → c.phase = .search → c.search = some st → st.stage ≠ .waiting → s.wakeWaitingSearch = s))

/-! ## POINT, RELEASE and the station mode -/

/-- POINT (R90): out of range refused; else the POINT that exists ends REPLACED with no command to the axes, the new entry
joins the tail of its level with reason HOST, and then the arbiter decides or tests. -/
def Obligations.PointJoins : Prop :=
  ∀ (tag : Byte) (aim : Dir) (level hold : Nat) (s : State), s.port.inHand = none →
    let ok : Prop := 0 ≤ aim.hz ∧ aim.hz < turn ∧ vLow ≤ aim.v ∧ aim.v ≤ vHigh ∧ level ≤ 3 ∧ hold ≤ 600000
    let entry : Entry := ⟨.point aim hold, level, .host, s.clock, false, none, none⟩
    (¬ ok → exec (.point tag aim level hold) s = .next (s.answered tag .badField []))
    ∧ (ok → s.pointCount = 0 →
        exec (.point tag aim level hold) s
          = .next ((({ s with due := dueInsert entry s.due } : State).thenDecides).answered tag .ok []))
    ∧ (ok → s.pointInFlight = false → exec (.point tag aim level hold) s
          = .next ((({ s with
              due := dueInsert entry (s.due.filter fun e => e.work.target != none)
              slots := s.slots.dropIf fun c => c.kind == .point } : State).thenDecides).answered tag .ok []))
    ∧ (ok → ∀ c, s.job = some c → c.kind = .point → c.target = none →
        exec (.point tag aim level hold) s
          = .next ((({ s with
              job := none, preempt := false
              due := dueInsert entry (s.due.filter fun e => e.work.target != none)
              slots := s.slots.dropIf fun c => c.kind == .point } : State).thenDecides).answered tag .ok []))

/-- RELEASE (R92, FIGURE 46). An id out of range is refused with BAD_FIELD. That an id which no record carries is answered NO_JOB and not NOT_FOUND is the model's choice
between R92 and R4 (log 32). -/
def Obligations.ReleaseEnds : Prop :=
  ∀ (tag : Byte) (id : Nat) (s : State), s.port.inHand = none →
    (¬ (1 ≤ id ∧ id ≤ 65534) → exec (.release tag (some id)) s = .next (s.answered tag .badField []))
    ∧ (1 ≤ id → id ≤ 65534 →
      (∀ c f, s.job = some c → c.kind = .visit → c.target = some id → c.phase = .dwell → c.found = some f →
        exec (.release tag (some id)) s = .next ((((s.finishJob
          (if f.displaced then .displaced else .confirmed)).thenStarts)).answered tag .ok [if f.displaced then 1 else 0]))
      ∧ ((∀ c, s.job = some c → ¬ (c.kind = .visit ∧ c.target = some id ∧ c.phase = .dwell)) →
        exec (.release tag (some id)) s = .next (s.answered tag .noJob [])))
    ∧ (∀ c, s.job = some c → c.kind = .point → c.phase = .hold → c.target = none → c.reason = .host →
        exec (.release tag none) s
          = .next ((({ s with job := none, preempt := false } : State).thenStarts).answered tag .ok [5]))
    ∧ ((∀ c, s.job = some c → ¬ (c.kind = .point ∧ c.phase = .hold)) →
        ((∃ e ∈ s.due, e.work.target = none) →
          exec (.release tag none) s
            = .next (({ s with due := s.due.filter fun e => e.work.target != none } : State).answered tag .ok [5]))
        ∧ ((∀ e ∈ s.due, e.work.target ≠ none) → (∃ c ∈ s.slots.contexts, c.kind = .point) →
          exec (.release tag none) s
            = .next (({ s with slots := s.slots.dropIf fun c => c.kind == .point } : State).answered tag .ok [5]))
        ∧ ((∀ e ∈ s.due, e.work.target ≠ none) → (∀ c ∈ s.slots.contexts, c.kind ≠ .point) →
          exec (.release tag none) s = .next (s.answered tag .noJob [])))

/-- STATION MODE (R66 to R68, R169, R170), ACTIVE, DOZE and PARKED with the numbers 0, 1 and 2 (R193): the present mode changes
nothing; PARKED ends the job and the contexts, switches
the sensor off and parks a drive that is not in REST or FAULT: a WAKING one when its wake ends, a READY one at once, a STEERING
one or one that slews for a job after STOP, and one that slews with no job in flight at the end of that slew; ACTIVE and DOZE
give the park up and the arbiter decides. The end PARKED leaves every ACTIVE and SUSPENDED record DUE (R26).

That the arbiter decides or tests also between ACTIVE and DOZE is the model's reading (log 16). -/
def Obligations.StationModeSelects : Prop :=
  (stationModeOf 0 = some .active ∧ stationModeOf 1 = some .doze ∧ stationModeOf 2 = some .parked)
  ∧ ∀ (tag : Byte) (n : Nat) (m : StationMode) (s : State), s.port.inHand = none →
    (2 < n → exec (.stationMode tag n) s = .next (s.answered tag .badField []))
    ∧ (stationModeOf n = some m → s.mode = m → exec (.stationMode tag n) s = .next (s.answered tag .ok []))
    ∧ (stationModeOf n = some .parked → s.mode ≠ .parked →
        ∃ t, exec (.stationMode tag n) s = .next t ∧ t.answers tag .ok [] ∧ t.mode = .parked ∧ t.job = none
          ∧ t.slots = ⟨none, none, none⟩ ∧ t.preempt = false ∧ t.sensorOn = false
          ∧ t.records.map TargetRecord.host = s.records.map TargetRecord.host
          ∧ (StationOk s → OrientOk s → abortLeaves s t .parked)
          ∧ (s.drive.state = .rest → t.drive.state = .rest) ∧ (s.drive.state = .fault → t.drive.state = .fault)
          ∧ (s.drive.state = .waking → t.drive.state = .waking ∧ t.drive.parkPending = true)
          ∧ (s.drive.state = .ready → t.drive.state = .slewing ∧ t.drive.purpose = .park ∧ t.drive.parkPending = true
              ∧ t.axisOut = s.axisOut ++ [.moveTo .v vHigh (s.drive.moveV + 1)])
          ∧ (DutyOk s → s.drive.state = .steering ∨ (s.drive.state = .slewing ∧ s.job ≠ none) →
              t.drive.state = .slewing ∧ t.drive.purpose = .park ∧ t.drive.parkPending = true
              ∧ t.axisOut = s.axisOut ++ [.stop .hz, .stop .v, .moveTo .v vHigh (s.drive.moveV + 1)])
          ∧ (s.drive.state = .slewing → s.job = none → t.drive.state = .slewing ∧ t.drive.parkPending = true
              ∧ t.drive.purpose = (if s.drive.purpose = .none then .park else s.drive.purpose) ∧ t.axisOut = s.axisOut))
    ∧ (stationModeOf n = some m → m ≠ .parked → s.mode = .parked →
        exec (.stationMode tag n) s = .next ((({ s with
          mode := m
          drive := { s.drive with
            parkPending := false
            purpose := if s.drive.purpose = .park then .none else s.drive.purpose } } : State).thenDecides).answered tag .ok []))
    ∧ (stationModeOf n = some m → m ≠ .parked → s.mode ≠ .parked → s.mode ≠ m →
        exec (.stationMode tag n) s = .next ((({ s with mode := m } : State).thenDecides).answered tag .ok []))

/-! ## Orientation -/

/-- The start of a reorientation (R176): the state, the counts at 0, an empty tally, and every REFERENCE record that was
WAITING, LOST or DUE is DUE with reason REORIENT and has its entry at level 3. The entries join the tail of level 3 in slot
order, stamped, and the entry of a DUE record keeps its deferral marks (R48).

REORIENT (R180): taken in ORIENTED or UNORIENTED with the out-of-window count at 0 and a REFERENCE record WAITING, LOST
or DUE; else WRONG_MODE. -/
def Obligations.ReorientStarts : Prop :=
  (∀ s : State, CountdownsOk s → (s.records.map (·.id)).Nodup →
    (∀ r ∈ s.records, r.state = .due → (s.entryOf r.id).isSome = true) →
    (∀ r ∈ s.records, (s.entryOf r.id).isSome = true → r.state = .due) → (s.due.map (·.work.target)).Nodup →
    s.startReorientation.orient.state = .reorienting ∧ s.startReorientation.orient.outCount = 0
    ∧ s.startReorientation.orient.inCount = 0 ∧ s.startReorientation.orient.tally = Tally.empty
    ∧ s.startReorientation.orient.offset = s.orient.offset
    ∧ ∀ r ∈ s.records,
      (r.fields.cls = .reference → r.state = .waiting ∨ r.state = .lost ∨ r.state = .due →
        (∃ r' ∈ s.startReorientation.records, r'.id = r.id ∧ r'.state = .due ∧ r'.countdown = none
          ∧ r'.dueReason = some .reorient)
        ∧ ∃ e ∈ s.startReorientation.due, e.work.target = some r.id ∧ e.level = 3 ∧ e.reason = .reorient)
      ∧ (r.fields.cls ≠ .reference ∨ r.state = .active ∨ r.state = .suspended ∨ r.state = .held →
        r ∈ s.startReorientation.records))
  ∧ (∀ s : State, StationOk s →
    let takesPart := fun r : TargetRecord =>
      decide (r.fields.cls = .reference ∧ (r.state = .waiting ∨ r.state = .lost ∨ r.state = .due))
    let joining := (s.records.filter takesPart).map fun r => match s.entryOf r.id with
      | none => (⟨r.work, 3, .reorient, s.clock, false, none, none⟩ : Entry)
      | some e => { e with level := 3, reason := .reorient, joined := s.clock, levelGiven := false }
    s.startReorientation.due = joining.foldl (fun due e => dueInsert e due)
      (s.due.filter fun e => !(s.records.filter takesPart).any fun r => e.work.target == some r.id))
  ∧ (∀ (tag : Byte) (s : State), s.port.inHand = none →
    let ok : Prop := (s.orient.state = .oriented ∨ s.orient.state = .unoriented) ∧ s.orient.outCount = 0
      ∧ ∃ r ∈ s.records, r.fields.cls = .reference ∧ (r.state = .waiting ∨ r.state = .lost ∨ r.state = .due)
    (ok → exec (.reorient tag) s = .next ((s.startReorientation.thenDecides).answered tag .ok []))
    ∧ (¬ ok → exec (.reorient tag) s = .next (s.answered tag .wrongMode [])))

/-- ORIENT SET (R181): BAD_FIELD out of range, WRONG_MODE in DISTURBED; else the offset is set and the state is ORIENTED, the
ORIENT attention flag is not set by it, and in REORIENTING the entries of that reason return first, and a REORIENT job in
flight is left over (R179). That no decision follows in ORIENTED, where the state does not change, is the model's reading
(log 14).

The return of the REORIENT entries (R179, R48): in their order each moves to the tail of its record's present level with reason
SCHEDULE, stamped, and keeps its deferral marks. -/
def Obligations.OrientSetSets : Prop :=
  (∀ s : State, StationOk s →
    let levelOf := fun e : Entry => ((e.work.target.bind s.find).map (·.level)).getD 0
    let returned := (s.due.filter fun e => e.reason == .reorient).map fun e =>
      { e with level := levelOf e, reason := .schedule, joined := s.clock, levelGiven := false }
    s.returnReorient = { s with
      due := returned.foldl (fun due e => dueInsert e due) (s.due.filter fun e => e.reason != .reorient)
      records := s.records.map fun r =>
        if (s.entryOf r.id).any (fun e => e.reason == .reorient) then { r with dueReason := some .schedule } else r })
  ∧ ∀ (tag : Byte) (offset : Int) (s : State), s.port.inHand = none →
    (offset < -8388608 ∨ 8388607 < offset → exec (.orientSet tag offset) s = .next (s.answered tag .badField []))
    ∧ (-8388608 ≤ offset → offset ≤ 8388607 →
      (s.orient.state = .disturbed → exec (.orientSet tag offset) s = .next (s.answered tag .wrongMode []))
      ∧ (s.orient.state = .oriented → exec (.orientSet tag offset) s = .next (({ s with
          orient := { s.orient with offset := offset, tally := Tally.empty } } : State).answered tag .ok []))
      ∧ (s.orient.state = .unoriented → exec (.orientSet tag offset) s = .next ((({ s with
          orient := ⟨.oriented, offset, 0, 0, Tally.empty⟩ } : State).thenDecides).answered tag .ok []))
      ∧ (s.orient.state = .reorienting → exec (.orientSet tag offset) s = .next ((({ s.returnReorient with
          orient := ⟨.oriented, offset, 0, 0, Tally.empty⟩
          job := s.job.map fun c => if c.reason = .reorient then { c with leftOver := true } else c
          } : State).thenDecides).answered tag .ok [])))

/-- A tilt sample (R173, R174, R175): counted in its window; the count that reaches TILT_FILTER disturbs the station, which
ends every job and sets LEVEL, or settles it. The end DISTURBED leaves every ACTIVE and SUSPENDED record DUE (R26, R179). The
disturbance makes the stop request (R165, R174), Hz before V (log 35), and the doze delay is settled after it (R171, log 7). -/
def Obligations.TiltSampleCounts : Prop :=
  ∀ (cross long : Int) (s : State),
    let out : Prop := (s.params.tiltLimit : Int) < |cross| ∨ (s.params.tiltLimit : Int) < |long|
    (s.orient.state ≠ .disturbed → ¬ out →
      exec (.tiltSample cross long) s = .next { s with orient := { s.orient with outCount := 0 } })
    ∧ (s.orient.state ≠ .disturbed → out → s.orient.outCount + 1 < s.params.tiltFilter →
      exec (.tiltSample cross long) s = .next { s with orient := { s.orient with outCount := s.orient.outCount + 1 } })
    ∧ (s.orient.state ≠ .disturbed → out → s.params.tiltFilter ≤ s.orient.outCount + 1 →
      ∃ t, exec (.tiltSample cross long) s = .next t ∧ t.orient = ⟨.disturbed, s.orient.offset, 0, 0, Tally.empty⟩
        ∧ t.job = none ∧ t.slots = ⟨none, none, none⟩ ∧ t.preempt = false ∧ t.sensorOn = false ∧ t.flags.level = true
        ∧ Frame s t ∧ t.drive.state ≠ .steering ∧ (StationOk s → OrientOk s → abortLeaves s t .disturbed)
        ∧ ∃ u, t = u.settleDoze ∧ stopsAxes s u ∧ u.job = none ∧ u.mode = s.mode ∧ u.params = s.params)
    ∧ (s.orient.state = .disturbed → out →
      exec (.tiltSample cross long) s = .next { s with orient := { s.orient with inCount := 0 } })
    ∧ (s.orient.state = .disturbed → ¬ out → s.orient.inCount + 1 < s.params.tiltFilter →
      exec (.tiltSample cross long) s = .next { s with orient := { s.orient with inCount := s.orient.inCount + 1 } })
    ∧ (s.orient.state = .disturbed → ¬ out → s.params.tiltFilter ≤ s.orient.inCount + 1 →
      ((∀ r ∈ s.records, r.fields.cls = .reference → r.state = .held) →
        exec (.tiltSample cross long) s = .next (({ s with
          orient := { s.orient with state := .unoriented, outCount := 0, inCount := 0 }
          flags := { s.flags with orient := true } } : State).thenDecides))
      ∧ ((∃ r ∈ s.records, r.fields.cls = .reference ∧ r.state ≠ .held) →
        exec (.tiltSample cross long) s = .next s.startReorientation.thenDecides))

/-- A residual joins the tally (R177): the mean of a REORIENT job that ends CONFIRMED or DISPLACED in REORIENTING, as the Hz
difference from the record's expected Hz plus the offset; the mean of a job left over from an earlier reorientation is not used
(R176, R179).

The judging of the tally (R178, FIGURE 93): accepted with at least REF_MIN residuals inside ORIENT_SPREAD, the offset
moves by the mean, wrapped by one turn at most; else, and with an empty tally, it is kept and the state is UNORIENTED. -/
def Obligations.TallyJudged : Prop :=
  (∀ (s : State) (c : JobContext) (id : Nat) (r : TargetRecord) (f : Found), c.target = some id → s.find id = some r →
    c.found = some f →
    (c.reason = .reorient → c.leftOver = false → s.orient.state = .reorienting →
      let x := signedHz (f.mean.hz - (r.expected.hz + s.orient.offset))
      s.handToTally c = { s with orient := { s.orient with tally :=
        ⟨s.orient.tally.count + 1, s.orient.tally.sum + x,
          match s.orient.tally.range with
          | none => some (x, x)
          | some (lo, hi) => some (min lo x, max hi x),
          s.orient.tally.ids ++ [id]⟩ } })
    ∧ (c.reason ≠ .reorient ∨ c.leftOver = true ∨ s.orient.state ≠ .reorienting → s.handToTally c = s))
  ∧ (∀ (s : State) (lo hi : Int), s.orient.tally.range = some (lo, hi) →
    let accepted : Prop := s.params.refMin ≤ s.orient.tally.count ∧ hi - lo ≤ (s.params.orientSpread : Int)
    (accepted → s.judgeTally.orient
        = ⟨.oriented, signedHz (s.orient.offset + s.orient.tally.sum.tdiv (s.orient.tally.count : Int)), 0, 0, Tally.empty⟩
      ∧ (s.orient.tally.sum.tdiv (s.orient.tally.count : Int) ≠ 0 → ∀ r ∈ s.records, r.id ∈ s.orient.tally.ids →
          ∃ r' ∈ s.judgeTally.records, r'.id = r.id ∧ r'.flags.news = true)
      ∧ (s.orient.tally.sum.tdiv (s.orient.tally.count : Int) = 0 → s.judgeTally.records = s.records))
    ∧ (¬ accepted → s.judgeTally.orient = ⟨.unoriented, s.orient.offset, 0, 0, Tally.empty⟩
        ∧ s.judgeTally.records = s.records)
    ∧ s.judgeTally.flags.orient = true)
  ∧ (∀ s : State, s.orient.tally = ⟨0, 0, none, []⟩ →
    s.judgeTally = { s with
      orient := ⟨.unoriented, s.orient.offset, 0, 0, Tally.empty⟩, flags := { s.flags with orient := true } })

/-! ## The axis drives -/

/-- DRIVE RESET (R168): the drive in REST and a start decision; WRONG_MODE outside FAULT. That REST goes to Hz before V is the
model's choice (log 35).

A report of a fault in FAULT (R167), and the reports ignored there. -/
def Obligations.FaultUntilReset : Prop :=
  (∀ (tag : Byte) (s : State), s.port.inHand = none →
    (s.drive.state = .fault → exec (.driveReset tag) s = .next ((({ s with
      drive := { s.drive with state := .rest, faultCode := .none, axisCode := 0, further := false }
      axisOut := s.axisOut ++ [.rest .hz, .rest .v] } : State).thenStarts).answered tag .ok []))
    ∧ (s.drive.state ≠ .fault → exec (.driveReset tag) s = .next (s.answered tag .wrongMode [])))
  ∧ (∀ (s : State) (axis : Axis) (code move : Byte) (position : Int), s.drive.state = .fault →
    exec (.stalled axis) s = .next { s with
      drive := { s.drive with further := true }, flags := { s.flags with drive := true } }
    ∧ exec (.fault axis code) s = .next { s with
      drive := { s.drive with further := true }, flags := { s.flags with drive := true } }
    ∧ exec (.readyReport axis) s = .next s ∧ exec (.atPosition axis position move) s = .next s)

/-- READY_REPORT (R160, R75, R106, R169, R171): ignored outside WAKING; the first mark is only set; the second ends the wake: a
job in WAKE goes on to SLEW with a move to its aim, a SEARCH whose probe waits for the wake with a move to its probe, a pending
park starts, and else the drive is READY. In DOZE with no job in flight the doze delay is then loaded, or a delay of 0 rests the
drive at once. That Hz is sent before V is the model's choice (log 35). -/
def Obligations.ReadyReportWakes : Prop :=
  ∀ (axis : Axis) (s : State),
    let other := match axis with
      | .hz => s.drive.readyV
      | .v => s.drive.readyHz
    (s.drive.state ≠ .waking → exec (.readyReport axis) s = .next s)
    ∧ (s.drive.state = .waking → other = false → exec (.readyReport axis) s = .next { s with drive := { s.drive with
        readyHz := s.drive.readyHz || axis == .hz, readyV := s.drive.readyV || axis == .v } })
    ∧ (s.drive.state = .waking → other = true →
      (∀ c, s.job = some c → c.phase = .wake → vInLimits c.aim.v = true →
        ∃ t, exec (.readyReport axis) s = .next t ∧ t.job = some { c with phase := .slew } ∧ t.drive.state = .slewing
          ∧ t.drive.purpose = .job ∧ t.drive.awaitHz = true ∧ t.drive.awaitV = true ∧ t.drive.wakeLimit = none
          ∧ t.drive.moveLimit = some c.config.moveLimit ∧ t.drive.moveHz = s.drive.moveHz + 1
          ∧ t.drive.moveV = s.drive.moveV + 1 ∧ Frame s t
          ∧ t.axisOut = s.axisOut ++ [.moveTo .hz c.aim.hz (s.drive.moveHz + 1), .moveTo .v c.aim.v (s.drive.moveV + 1)])
      ∧ (∀ c st, s.job = some c → c.phase = .search → c.search = some st →
        let probe : Dir := ⟨(st.centre.hz + st.offset.hz) % turn, st.centre.v + st.offset.v⟩
        (st.stage = .slewing → vInLimits probe.v = true →
          ∃ t, exec (.readyReport axis) s = .next t ∧ t.job = some c ∧ t.drive.state = .slewing
            ∧ t.drive.purpose = .job ∧ t.drive.awaitHz = true ∧ t.drive.awaitV = true ∧ t.drive.wakeLimit = none
            ∧ t.drive.moveLimit = some c.config.moveLimit ∧ t.drive.moveHz = s.drive.moveHz + 1
            ∧ t.drive.moveV = s.drive.moveV + 1 ∧ Frame s t
            ∧ t.axisOut = s.axisOut ++ [.moveTo .hz probe.hz (s.drive.moveHz + 1), .moveTo .v probe.v (s.drive.moveV + 1)])
        ∧ (st.stage = .waiting → ∃ t, exec (.readyReport axis) s = .next t ∧ t.job = some c ∧ t.drive.state = .ready
            ∧ t.drive.wakeLimit = none ∧ t.axisOut = s.axisOut ∧ Frame s t))
      ∧ (s.job = none → s.drive.parkPending = true → ∃ t, exec (.readyReport axis) s = .next t
          ∧ t.drive.state = .slewing ∧ t.drive.purpose = .park ∧ t.drive.awaitHz = false ∧ t.drive.awaitV = true
          ∧ t.axisOut = s.axisOut ++ [.moveTo .v vHigh (s.drive.moveV + 1)] ∧ Frame s t)
      ∧ (s.job = none → s.drive.parkPending = false → s.mode ≠ .doze → ∃ t, exec (.readyReport axis) s = .next t
          ∧ t.drive.state = .ready ∧ t.drive.wakeLimit = none ∧ t.axisOut = s.axisOut ∧ Frame s t)
      ∧ (s.job = none → s.drive.parkPending = false → s.mode = .doze → RestOk s → ∃ t, exec (.readyReport axis) s = .next t
          ∧ t.job = none ∧ t.drive.wakeLimit = none ∧ Frame s t ∧ dozes s t))

/-- AT_POSITION (R158, R162): ignored unless SLEWING with the axis awaited and its move number current; the first only clears
its mark; the last ends the slew by its purpose. For a job that is LOOK or HOLD, the first frame of the probe (R106), or
NOT_FOUND where the search limit ran out in the slew (R109). A park ends in REST. A slew with no purpose, or one for a job that
has gone, leaves the drive READY; then a pending park starts (R169), and in DOZE with no job in flight the doze delay is loaded, or
a delay of 0 rests the drive at once (R171). That Hz is sent before V is the model's choice (log 35). -/
def Obligations.AtPositionEndsSlew : Prop :=
  ∀ (axis : Axis) (position : Int) (move : Byte) (s : State),
    let own := match axis with
      | .hz => s.drive.awaitHz && move == s.drive.moveHz
      | .v => s.drive.awaitV && move == s.drive.moveV
    let other := match axis with
      | .hz => s.drive.awaitV
      | .v => s.drive.awaitHz
    let idle : Prop := s.drive.purpose = .none ∨ (s.drive.purpose = .job ∧ s.job = none)
    (s.drive.state ≠ .slewing ∨ own = false → exec (.atPosition axis position move) s = .next s)
    ∧ (s.drive.state = .slewing → own = true → other = true →
      exec (.atPosition axis position move) s = .next { s with drive := { s.drive with
        awaitHz := s.drive.awaitHz && axis == .v, awaitV := s.drive.awaitV && axis == .hz } })
    ∧ (s.drive.state = .slewing → own = true → other = false →
      (∀ c, s.drive.purpose = .job → s.job = some c → c.phase = .slew → s.drive.parkPending = false →
        ∃ t, exec (.atPosition axis position move) s = .next t
          ∧ t.job = some { c with phase := if c.kind = .point then .hold else .look } ∧ t.drive.state = .ready
          ∧ t.drive.moveLimit = none ∧ t.drive.purpose = .none ∧ t.axisOut = s.axisOut ∧ t.records = s.records
          ∧ Frame s t)
      ∧ (∀ c st, s.drive.purpose = .job → s.job = some c → c.phase = .search → c.search = some st → st.stage = .slewing →
          s.drive.parkPending = false →
        (st.limitOut = false → ∃ t, exec (.atPosition axis position move) s = .next t
          ∧ t.job = some { c with search := some { st with stage := .taking, frames := 0 } } ∧ t.drive.state = .ready
          ∧ t.drive.moveLimit = none ∧ t.drive.purpose = .none ∧ t.axisOut = s.axisOut ∧ t.records = s.records
          ∧ Frame s t)
        ∧ (∀ id r, st.limitOut = true → StationOk s → c.target = some id → s.find id = some r →
          ∃ t r', exec (.atPosition axis position move) s = .next t ∧ Frame s t ∧ t.find id = some r' ∧ r'.state = .lost
            ∧ r'.lastEnd = some .notFound ∧ r'.missCount = min 255 (r.missCount + 1)
            ∧ r'.confirmation = r.confirmation ∧ t.flags.lost = true))
      ∧ (s.drive.purpose = .park → ∃ t, exec (.atPosition axis position move) s = .next t ∧ t.drive.state = .rest
          ∧ t.drive.parkPending = false ∧ t.drive.moveLimit = none ∧ t.axisOut = s.axisOut ++ [.rest .hz, .rest .v]
          ∧ t.job = s.job ∧ Frame s t)
      ∧ (idle → s.drive.parkPending = false → s.mode ≠ .doze ∨ s.job ≠ none →
        ∃ t, exec (.atPosition axis position move) s = .next t ∧ t.drive.state = .ready ∧ t.drive.purpose = .none
          ∧ t.drive.moveLimit = none ∧ t.axisOut = s.axisOut ∧ t.job = s.job ∧ Frame s t)
      ∧ (idle → s.drive.parkPending = true →
        ∃ t, exec (.atPosition axis position move) s = .next t ∧ t.drive.state = .slewing ∧ t.drive.purpose = .park
          ∧ t.drive.parkPending = true ∧ t.drive.awaitHz = false ∧ t.drive.awaitV = true
          ∧ t.drive.moveLimit = some s.params.moveLimit ∧ t.axisOut = s.axisOut ++ [.moveTo .v vHigh (s.drive.moveV + 1)]
          ∧ t.job = s.job ∧ Frame s t)
      ∧ (idle → s.drive.parkPending = false → s.mode = .doze → s.job = none → RestOk s →
        ∃ t, exec (.atPosition axis position move) s = .next t ∧ t.drive.moveLimit = none ∧ t.job = none ∧ Frame s t
          ∧ dozes s t))

/-- The entry into FAULT (R166, R51), by STALLED, FAULT, the wake limit or the move limit: the code of FIGURE 88, STOP to
both axes, the DRIVE flag, no timer of the drive left, every job and context ended, and the sensor off. The end DRIVE_FAULT
leaves every ACTIVE and SUSPENDED record DUE (R26). That STOP goes to Hz before V is the model's choice (log 35), and so is that a
limit's expiry is taken whatever time is left on it (log 2). -/
def Obligations.FaultEndsWork : Prop :=
  ∀ (s : State) (axis : Axis) (code : Byte) (i : Instr) (cause : FaultCode) (axisCode : Byte),
    s.drive.state ≠ .fault →
    (i = .stalled axis ∧ cause = (if axis = .hz then .stallHz else .stallV) ∧ axisCode = 0)
      ∨ (i = .fault axis code ∧ cause = (if axis = .hz then .axisHz else .axisV) ∧ axisCode = code)
      ∨ (i = .wakeLimitExpiry ∧ s.drive.wakeLimit ≠ none ∧ cause = .wakeTimeout ∧ axisCode = 0)
      ∨ (i = .moveLimitExpiry ∧ s.drive.moveLimit ≠ none ∧ cause = .moveTimeout ∧ axisCode = 0) →
    ∃ t, exec i s = .next t ∧ t.drive.state = .fault ∧ t.drive.faultCode = cause ∧ t.drive.axisCode = axisCode
      ∧ t.drive.further = false ∧ t.drive.wakeLimit = none ∧ t.drive.moveLimit = none ∧ t.drive.dozeDelay = none
      ∧ t.drive.parkPending = false ∧ t.drive.moveHz = s.drive.moveHz ∧ t.drive.moveV = s.drive.moveV
      ∧ t.axisOut = s.axisOut ++ [.stop .hz, .stop .v] ∧ t.flags.drive = true ∧ t.job = none
      ∧ t.slots = ⟨none, none, none⟩ ∧ t.preempt = false ∧ t.sensorOn = false ∧ Frame s t
      ∧ (StationOk s → OrientOk s → abortLeaves s t .driveFault)

/-- DOZE_DELAY_EXPIRY (R171): REST to both axes, and the drive is in REST; nothing while no delay runs, which is the model's
choice (log 2, log 22), and so is that REST goes to Hz before V (log 35). -/
def Obligations.DozeDelayRests : Prop :=
  ∀ s : State,
    (s.drive.dozeDelay = none → exec .dozeDelayExpiry s = .next s)
    ∧ (s.drive.dozeDelay ≠ none → ∃ d : Drive, exec .dozeDelayExpiry s = .next { s with
          drive := d, axisOut := s.axisOut ++ [.rest .hz, .rest .v] }
        ∧ d.state = .rest ∧ d.dozeDelay = none ∧ d.moveHz = s.drive.moveHz ∧ d.moveV = s.drive.moveV)

/-- Every MOVE TO carries the next move number of its axis, wrapping from 255 to 0, and the numbers held are those of the
last moves sent (R158).

No command sends the V axis outside V_LOW to V_HIGH (R1, R104, R131, R136, R169), whatever the state.

The sensor is sent a command only when it changes the sensor's state (R112). -/
def Obligations.CommandsSentFollowRules : Prop :=
  (∀ (c : Instr) (s t : State), c ≠ .powerOn → exec c s = .next t →
    ∃ sent, t.axisOut = s.axisOut ++ sent
      ∧ movesRun (s.drive.moveHz, s.drive.moveV) sent = some (t.drive.moveHz, t.drive.moveV))
  ∧ (∀ (c : Instr) (s t : State), exec c s = .next t →
    (∀ x ∈ s.axisOut, x.insideLimits = true) → ∀ x ∈ t.axisOut, x.insideLimits = true)
  ∧ (∀ (c : Instr) (s t : State), c ≠ .powerOn → exec c s = .next t →
    ∃ sent, t.sensorOut = s.sensorOut ++ sent ∧ switchesRun s.sensorOn sent = some t.sensorOn)

/-! ## Frames and verdicts -/

/-- The form of a sensor frame (R113, FIGURE 107): which bytes are a frame, and what it holds.

SENSOR_FRAME (R113 to R115): a malformed frame, a repeat, or one that the job's phase does not take changes nothing; one
that is taken becomes the last frame, gets one verdict, and the job acts on it. -/
def Obligations.SensorFrameTaken : Prop :=
  (∀ bytes : List Byte,
    let count := readU bytes 11 1
    let spot := fun k : Nat => (⟨⟨readS bytes (12 + 7 * k) 2, readS bytes (14 + 7 * k) 2⟩, readU bytes (16 + 7 * k) 2,
      readU bytes (18 + 7 * k) 1⟩ : RawSpot)
    let ok : Prop := 12 ≤ bytes.length ∧ readU bytes 2 1 ≤ 1 ∧ count ≤ 4 ∧ bytes.length = 12 + 7 * count
      ∧ ∀ k < count, |(spot k).offset.hz| ≤ 12000 ∧ |(spot k).offset.v| ≤ 12000 ∧ (spot k).strength ≤ 1023
        ∧ 1 ≤ (spot k).size
    (¬ ok → parseSensorFrame bytes = none)
    ∧ (ok → parseSensorFrame bytes = some ⟨BitVec.ofNat 16 (readU bytes 0 2), readU bytes 2 1 == 1,
        ⟨readS bytes 3 4, readS bytes 7 4⟩, (List.range count).map spot⟩))
  ∧ ∀ (bytes : List Byte) (s : State),
    (parseSensorFrame bytes = none → exec (.sensorFrame bytes) s = .next s)
    ∧ ∀ f, parseSensorFrame bytes = some f →
      (s.job = none → exec (.sensorFrame bytes) s = .next s)
      ∧ ∀ c, s.job = some c →
        let taken : Prop := (s.drive.state = .ready ∧ (c.phase = .look ∨ c.phase = .confirm
            ∨ (c.phase = .search ∧ ∃ st ∈ c.search, st.stage = .taking)))
          ∨ (s.drive.state = .steering ∧ (c.phase = .track ∨ c.phase = .coast))
        (s.lastFrame = some f.number ∨ ¬ taken → exec (.sensorFrame bytes) s = .next s)
        ∧ (s.lastFrame ≠ some f.number → taken → ∃ t, exec (.sensorFrame bytes) s = .next t ∧ Frame s t
            ∧ t = ((({ s with lastFrame := some f.number } : State).actOnVerdict c (s.judge c f)).followUp))

/-- The verdict of the survivors of a frame (R124, FIGURE 63): they are ranked by distance from the reference, in the frame's
order at equal distance.

A spot survives exactly when no screen discards it (R119 to R122, FIGURE 61).

The reference of a frame (R123, FIGURE 62); the absolute direction of a spot (R118); the verdict of a BLINDED frame is empty
(R117), and that of a GOOD one is the verdict of its survivors, ranked from the reference.

The Hz difference is signed and shortest, congruent modulo a turn to the plain difference, and the distance is the larger of the
two absolute differences (R1). -/
def Obligations.FrameVerdict : Prop :=
  (∀ (margin : Nat) (reference : Dir) (l : List Spot),
    (rankSpots reference l).Perm l
    ∧ ((rankSpots reference l).map fun p => distance reference p.dir).Pairwise (· ≤ ·)
    ∧ (∀ d, (rankSpots reference l).filter (fun p => distance reference p.dir == d)
        = l.filter fun p => distance reference p.dir == d)
    ∧ verdictOf margin reference [] = .empty
    ∧ (∀ p, verdictOf margin reference [p] = .matched p.dir p.strength)
    ∧ (∀ p q rest, distance reference p.dir ≤ distance reference q.dir →
        verdictOf margin reference (p :: q :: rest)
          = if distance reference p.dir + margin ≤ distance reference q.dir then .matched p.dir p.strength
            else .ambiguous))
  ∧ (∀ (c : JobContext) (zones : List Zone) (reference : Dir) (p : Spot),
    (screenSpot c zones reference p = none ↔
      c.config.minStrength ≤ p.strength
      ∧ (∀ b, c.band = some b → b.lo ≤ p.strength ∧ p.strength ≤ b.hi)
      ∧ p.size ≤ c.config.maxSpotSize
      ∧ (∀ z ∈ zones, z.kind = .glare → z.contains p.dir = false)
      ∧ (∀ d ∈ c.rejected, c.config.rejectRadius < distance d p.dir)
      ∧ (c.phase ≠ .search → distance reference p.dir ≤ c.gate)))
  ∧ (∀ (s : State) (c : JobContext),
    (∀ st, c.phase = .search → c.search = some st → s.referenceFor c = st.centre)
    ∧ (∀ d, c.phase = .confirm → c.reference = some d → s.referenceFor c = d)
    ∧ (c.kind = .visit → c.phase = .look ∨ (c.phase = .confirm ∧ c.reference = none) → s.referenceFor c = c.aim)
    ∧ (∀ id r, c.kind = .track → c.target = some id → s.find id = some r →
        c.phase = .look ∨ c.phase = .track ∨ c.phase = .coast ∨ (c.phase = .confirm ∧ c.reference = none) →
        s.referenceFor c = r.prediction s.clock)
    ∧ ∀ f : SensorFrame,
      let spot := fun x : RawSpot => (⟨⟨(f.exposure.hz + x.offset.hz) % turn, f.exposure.v + x.offset.v⟩, x.strength,
        x.size⟩ : Spot)
      (f.blinded = true → s.judge c f = .empty)
      ∧ (f.blinded = false → s.judge c f = verdictOf c.config.ambiguityMargin (s.referenceFor c)
          (rankSpots (s.referenceFor c)
            ((f.spots.map spot).filter fun p => (screenSpot c s.zones (s.referenceFor c) p).isNone))))
  ∧ (∀ x : Int, -8388608 ≤ signedHz x ∧ signedHz x ≤ 8388607 ∧ ∃ turns : Int, signedHz x = x + turns * 16777216)
  ∧ (∀ a b : Dir, hzDiff a b = signedHz (b.hz - a.hz)
    ∧ distance a b = max (hzDiff a b).natAbs (b.v - a.v).natAbs)

/-- A verdict in LOOK (R77 to R79): a match enters CONFIRM with count 1, and is evaluated at once when one confirming frame is
enough; an empty one counts; the look count that reaches its limit enters SEARCH about the aim; AMBIGUOUS ends the job at its count.

A verdict in CONFIRM (R79 to R81, FIGURE 41): a match joins the sums, and the one that reaches the count has their mean
evaluated; an empty or ambiguous one breaks the run and counts as in LOOK, or ends the probe.

A verdict at a probe (R106, R107, FIGURE 54).

The evaluation of a visit (R81 to R84, FIGURE 42): inside the tolerance CONFIRMED; outside it but inside the gate by the
orientation state; with a dwell above 0 the job dwells on the finding, with a dwell of 0 it ends with it; outside the gate the
mean is foreign, joins the four most recent rejected directions, and the probe is done (R83). The confirm count stands (R70).

What an AMBIGUOUS end leaves of the record (R24). -/
def Obligations.VisitVerdicts : Prop :=
  (∀ (s : State) (c : JobContext) (d : Dir) (q : Nat), c.phase = .look →
    let entered : JobContext := { c with
      phase := .confirm, ambiguousCount := 0, confirmCount := 1, sums := some ⟨d, 0, d.v, q⟩
      origin := some .look, reference := none }
    (1 < c.config.confirmFrames → s.actOnVerdict c (.matched d q) = { s with job := some entered })
    ∧ (c.config.confirmFrames ≤ 1 → s.actOnVerdict c (.matched d q) = s.evaluate entered ⟨d.hz % turn, d.v⟩ q)
    ∧ (0 < c.config.confirmFrames → c.lookCount + 1 < c.config.lookFrames →
        s.actOnVerdict c .empty = { s with job := some { c with lookCount := c.lookCount + 1, ambiguousCount := 0 } })
    ∧ (0 < c.config.confirmFrames → c.config.lookFrames ≤ c.lookCount + 1 →
        s.actOnVerdict c .empty
          = s.enterSearch { c with lookCount := c.lookCount + 1, ambiguousCount := 0 } c.aim)
    ∧ (c.ambiguousCount + 1 < c.config.confirmFrames → c.lookCount + 1 < c.config.lookFrames →
        s.actOnVerdict c .ambiguous = { s with job := some { c with
          lookCount := c.lookCount + 1, ambiguousCount := c.ambiguousCount + 1 } })
    ∧ (c.ambiguousCount + 1 < c.config.confirmFrames → c.config.lookFrames ≤ c.lookCount + 1 →
        s.actOnVerdict c .ambiguous = s.enterSearch { c with
          lookCount := c.lookCount + 1, ambiguousCount := c.ambiguousCount + 1 } c.aim)
    ∧ (c.config.confirmFrames ≤ c.ambiguousCount + 1 →
        s.actOnVerdict c .ambiguous = (({ s with job := some { c with
          lookCount := c.lookCount + 1, ambiguousCount := c.ambiguousCount + 1 } } : State).finishJob .ambiguous)))
  ∧ (∀ (s : State) (c : JobContext) (x : ConfirmSums) (d : Dir) (q : Nat), c.phase = .confirm → c.sums = some x →
    let n := c.confirmCount + 1
    let hz := x.hz + hzDiff x.first d
    let more : JobContext := { c with
      confirmCount := n, sums := some ⟨x.first, hz, x.v + d.v, x.strength + q⟩, ambiguousCount := 0 }
    let broken : JobContext := { c with confirmCount := 0, sums := none, origin := none, reference := none }
    (n < c.config.confirmFrames → s.actOnVerdict c (.matched d q) = { s with job := some more })
    ∧ (c.config.confirmFrames ≤ n → s.actOnVerdict c (.matched d q)
        = s.evaluate more ⟨(x.first.hz + hz.tdiv n) % turn, (x.v + d.v).tdiv n⟩ ((x.strength + q) / n))
    ∧ (c.origin = some .look →
        s.actOnVerdict c .empty = s.actOnVerdict { broken with phase := .look } .empty
        ∧ s.actOnVerdict c .ambiguous = s.actOnVerdict { broken with phase := .look } .ambiguous)
    ∧ (c.origin = some .search → 0 < c.config.confirmFrames →
        s.actOnVerdict c .empty = s.nextProbe { broken with ambiguousCount := 0 }
        ∧ (c.ambiguousCount + 1 < c.config.confirmFrames →
            s.actOnVerdict c .ambiguous = s.nextProbe { broken with ambiguousCount := c.ambiguousCount + 1 })
        ∧ (c.config.confirmFrames ≤ c.ambiguousCount + 1 →
            s.actOnVerdict c .ambiguous = ({ s with job := some { broken with
              ambiguousCount := c.ambiguousCount + 1 } } : State).finishJob .ambiguous)))
  ∧ (∀ (s : State) (c : JobContext) (st : SearchState) (d : Dir) (q : Nat), c.phase = .search → c.search = some st →
    let seen := fun n : Nat => ({ c with
      ambiguousCount := n, search := some { st with frames := st.frames + 1 } } : JobContext)
    let entered : JobContext := { c with
      phase := .confirm, ambiguousCount := 0, confirmCount := 1, sums := some ⟨d, 0, d.v, q⟩
      origin := some .search, reference := some d }
    (1 < c.config.confirmFrames → s.actOnVerdict c (.matched d q) = { s with job := some entered })
    ∧ (c.config.confirmFrames ≤ 1 → s.actOnVerdict c (.matched d q) = s.evaluate entered ⟨d.hz % turn, d.v⟩ q)
    ∧ (st.frames + 1 < st.pattern.framesPerProbe → s.actOnVerdict c .empty = { s with job := some (seen 0) })
    ∧ (st.pattern.framesPerProbe ≤ st.frames + 1 → s.actOnVerdict c .empty = s.nextProbe (seen 0))
    ∧ (c.config.confirmFrames ≤ c.ambiguousCount + 1 → s.actOnVerdict c .ambiguous
        = ({ s with job := some { c with ambiguousCount := c.ambiguousCount + 1 } } : State).finishJob .ambiguous)
    ∧ (c.ambiguousCount + 1 < c.config.confirmFrames → st.frames + 1 < st.pattern.framesPerProbe →
        s.actOnVerdict c .ambiguous = { s with job := some (seen (c.ambiguousCount + 1)) })
    ∧ (c.ambiguousCount + 1 < c.config.confirmFrames → st.pattern.framesPerProbe ≤ st.frames + 1 →
        s.actOnVerdict c .ambiguous = s.nextProbe (seen (c.ambiguousCount + 1))))
  ∧ (∀ (s : State) (c : JobContext) (mean : Dir) (q : Nat), c.kind = .visit →
    let displaced : Bool := decide (c.tolerance < distance c.aim mean) && s.orient.state == .oriented
    let done : JobContext := { c with
      searchLeft := none, sums := none, origin := none, reference := none
      found := some ⟨displaced, mean, q, s.clock,
        decide (c.tolerance < distance c.aim mean) && s.orient.state == .unoriented⟩ }
    (distance c.aim mean ≤ max c.tolerance c.gate → 0 < c.dwell →
      s.evaluate c mean q = { s with job := some { done with phase := .dwell, dwellLeft := some c.dwell } })
    ∧ (distance c.aim mean ≤ max c.tolerance c.gate → c.dwell = 0 → s.evaluate c mean q
        = ({ s with job := some done } : State).finishJob (if displaced then .displaced else .confirmed))
    ∧ (max c.tolerance c.gate < distance c.aim mean → s.evaluate c mean q = s.nextProbe { c with
        sums := none, origin := none, reference := none
        rejected := (c.rejected ++ [mean]).drop (c.rejected.length + 1 - 4) }))
  ∧ (∀ (s : State) (c : JobContext) (id : Nat) (r : TargetRecord), StationOk s → s.job = some c → c.target = some id →
    s.find id = some r →
    ∃ r', (s.finishJob .ambiguous).find id = some r' ∧ r'.missCount = min 255 (r.missCount + 1)
      ∧ r'.flags.ambiguous = true ∧ r'.flags.news = true ∧ r'.lastEnd = some .ambiguous
      ∧ r'.confirmation = r.confirmation ∧ r'.residual = r.residual ∧ (s.finishJob .ambiguous).flags.news = true
      ∧ (∀ x, r.fields = .static x ∨ r.fields = .reference x →
          r'.state = .waiting ∧ r'.countdown = some (x.interval * 1000))
      ∧ (∀ x, r.fields = .moving x → r'.state = .lost ∧ r'.rate = none ∧ (s.finishJob .ambiguous).flags.lost = true
          ∧ r'.countdown = (if s.params.lostRetry = 0 then none else some (s.params.lostRetry * 1000))))

/-- The entry into TRACK (R134): the acquisition with its ACQUIRE edge, the counts and timers discarded, the shadow mark of
the mean, and a steering command for the mean with the lead of the record's rate (R136).

A matched frame in TRACK (R135, R136): the track report with the rate from the second frame of the stay on, and one
steering command with the lead of the record's rate. The first frame of a stay, or one at the time of the frame before, keeps
the rate of the record, and steers with its lead. The lead is the rate times 40 ms, toward zero, and 0 for a record without a
rate; the target's Hz wraps and its V is limited.

A frame in TRACK (R137, R138): the shadow test before the verdict, and the loss filter of the frames without the prism. That
with a coast limit of 0 the verdict is dropped is the model's reading (log 11).

The entry into COAST (R139) with its LOSS edge, over at once for a limit of 0, and a frame in COAST (R140): a steering command
for the prediction, and then the verdict joins or breaks the run.

That the mean whose shadow test is taken at the entry into TRACK has its V limited is the model's reading (log 20), and that every
steering command goes to Hz before V is its choice (log 35). -/
def Obligations.TrackAndCoast : Prop :=
  (∀ (s : State) (c : JobContext) (id : Nat) (r : TargetRecord) (mean : Dir) (q : Nat), c.target = some id →
    s.find id = some r → 0 ≤ mean.hz → mean.hz < turn →
    s.drive.state = .ready ∨ s.drive.state = .slewing ∨ s.drive.state = .steering →
    let t := s.enterTrack c mean q
    let target := steerTarget mean r.rate
    (c.kind = .track → s.evaluate c mean q = t)
    ∧ t.find id = some { r with
        confirmation := some ⟨mean, s.clock, q⟩, missCount := 0
        flags := { r.flags with ambiguous := false, news := r.flags.news || c.notify.hearsAcquire } }
    ∧ t.flags = { s.flags with news := s.flags.news || c.notify.hearsAcquire }
    ∧ t.job = some { c with
        phase := .track, emptyCount := 0, previous := none, confirmCount := 0, sums := none, origin := none
        reference := none, coastLeft := none, searchLeft := none
        shadowMark := inZones s.zones .shadow ⟨mean.hz, max vLow (min vHigh mean.v)⟩ }
    ∧ t.drive.state = .steering ∧ t.axisOut = s.axisOut ++
        [.moveTo .hz target.hz (s.drive.moveHz + 1), .moveTo .v target.v (s.drive.moveV + 1)])
  ∧ (∀ (s : State) (c : JobContext) (id : Nat) (r : TargetRecord) (d d0 : Dir) (t0 : SiteTime) (q : Nat),
    c.target = some id → s.find id = some r → c.previous = some (d0, t0) → t0 ≠ s.clock →
    let ms := (s.clock - t0).toNat
    let limit := fun x : Int => max (-200000) (min 200000 x)
    let rate : Offset := ⟨limit ((hzDiff d0 d * 1000).tdiv ms), limit (((d.v - d0.v) * 1000).tdiv ms)⟩
    let s' := s.trackMatched c d q
    (∃ r', s'.find id = some r' ∧ r'.confirmation = some ⟨d, s.clock, q⟩ ∧ r'.rate = some rate ∧ r'.host = r.host
        ∧ r'.state = r.state ∧ r'.missCount = r.missCount)
    ∧ s'.job = some { c with previous := some (d, s.clock), emptyCount := 0 }
    ∧ s'.axisOut = s.axisOut ++
        [.moveTo .hz ((d.hz + (rate.hz * 40).tdiv 1000) % turn) (s.drive.moveHz + 1),
         .moveTo .v (max vLow (min vHigh (d.v + (rate.v * 40).tdiv 1000))) (s.drive.moveV + 1)])
  ∧ (∀ (s : State) (c : JobContext) (id : Nat) (r : TargetRecord) (d : Dir) (q : Nat), c.target = some id →
    s.find id = some r → (∀ d0 t0, c.previous = some (d0, t0) → t0 = s.clock) →
    let target := steerTarget d r.rate
    (s.trackMatched c d q).find id = some { r with confirmation := some ⟨d, s.clock, q⟩ }
    ∧ (s.trackMatched c d q).job = some { c with previous := some (d, s.clock), emptyCount := 0 }
    ∧ (s.trackMatched c d q).axisOut = s.axisOut ++
        [.moveTo .hz target.hz (s.drive.moveHz + 1), .moveTo .v target.v (s.drive.moveV + 1)])
  ∧ (∀ d : Dir,
    steerTarget d none = ⟨d.hz % turn, max vLow (min vHigh d.v)⟩
    ∧ ∀ rate : Offset, steerTarget d (some rate)
      = ⟨(d.hz + (rate.hz * 40).tdiv 1000) % turn, max vLow (min vHigh (d.v + (rate.v * 40).tdiv 1000))⟩)
  ∧ (∀ (s : State) (c : JobContext) (id : Nat) (r : TargetRecord) (v : Verdict), c.target = some id → s.find id = some r →
    c.phase = .track →
    let inside : Prop := inZones s.zones .shadow (r.prediction s.clock) = true
    let tested : JobContext := { c with shadowMark := c.shadowMark && inZones s.zones .shadow (r.prediction s.clock) }
    (inside → c.shadowMark = false → 0 < c.config.coastLimit →
      s.actOnVerdict c v = (s.enterCoast c).actOnVerdict c.coasting v)
    ∧ (inside → c.shadowMark = false → c.config.coastLimit = 0 → s.actOnVerdict c v = s.enterCoast c)
    ∧ (¬ inside ∨ c.shadowMark = true →
      (∀ d q, v = .matched d q → s.actOnVerdict c v = s.trackMatched tested d q)
      ∧ (v = .empty ∨ v = .ambiguous → c.emptyCount + 1 < c.config.lossFrames →
          s.actOnVerdict c v = { s with job := some { tested with emptyCount := c.emptyCount + 1 } })
      ∧ (v = .empty ∨ v = .ambiguous → c.config.lossFrames ≤ c.emptyCount + 1 →
          s.actOnVerdict c v = s.enterCoast { tested with emptyCount := c.emptyCount + 1 })))
  ∧ (∀ (s : State) (c : JobContext) (id : Nat) (r : TargetRecord), c.target = some id → s.find id = some r →
    let target := steerTarget (r.prediction s.clock) r.rate
    let told := if c.notify.hearsLoss then s.setNews id else s
    let entered : State := { told with
      job := some c.coasting
      drive := { s.drive with moveHz := s.drive.moveHz + 1, moveV := s.drive.moveV + 1 }
      axisOut := s.axisOut ++
        [.moveTo .hz target.hz (s.drive.moveHz + 1), .moveTo .v target.v (s.drive.moveV + 1)] }
    (0 < c.config.coastLimit → s.enterCoast c = entered)
    ∧ (c.config.coastLimit = 0 → s.enterCoast c = entered.coastExpires c.coasting)
    ∧ c.coasting = { c with
        phase := .coast, emptyCount := 0, previous := none, shadowMark := false, coastLeft := some c.config.coastLimit
        confirmCount := 0, sums := none, origin := none, reference := none }
    ∧ told = { s with records := told.records, flags := { s.flags with news := s.flags.news || c.notify.hearsLoss } }
    ∧ told.find id = some { r with flags := { r.flags with news := r.flags.news || c.notify.hearsLoss } })
  ∧ (∀ (s : State) (c : JobContext) (id : Nat) (r : TargetRecord), c.target = some id → s.find id = some r →
    c.phase = .coast →
    let target := steerTarget (r.prediction s.clock) r.rate
    let steered : State := { s with
      drive := { s.drive with moveHz := s.drive.moveHz + 1, moveV := s.drive.moveV + 1 }
      axisOut := s.axisOut ++
        [.moveTo .hz target.hz (s.drive.moveHz + 1), .moveTo .v target.v (s.drive.moveV + 1)] }
    let broken : JobContext := { c with confirmCount := 0, sums := none, origin := none, reference := none }
    s.actOnVerdict c .empty = { steered with job := some broken }
    ∧ s.actOnVerdict c .ambiguous = { steered with job := some broken }
    ∧ ∀ (d : Dir) (q : Nat),
      let n := c.confirmCount + 1
      let sums : ConfirmSums := match c.sums with
        | none => ⟨d, 0, d.v, q⟩
        | some x => ⟨x.first, x.hz + hzDiff x.first d, x.v + d.v, x.strength + q⟩
      (n < c.config.confirmFrames → s.actOnVerdict c (.matched d q)
        = { steered with job := some { c with confirmCount := n, sums := some sums } })
      ∧ (c.config.confirmFrames ≤ n → s.actOnVerdict c (.matched d q)
        = steered.enterTrack { c with confirmCount := n, sums := some sums }
            ⟨(sums.first.hz + sums.hz.tdiv n) % turn, sums.v.tdiv n⟩ (sums.strength / n)))

/-! ## Timers -/

/-- COUNTDOWN_EXPIRY (R37): while counting, a record with a countdown becomes DUE, with reason SCHEDULE, or RETRY when it was
LOST, at the tail of its level, and the arbiter decides or tests; else nothing.

DEFERRAL_TIMER_EXPIRY (R58, R28): OVERDUE and NEWS on the record, both attention flags; the entry stays DEFERRED and has
no timer any more.

That an expiry of a timer that does not run changes nothing is the model's choice (log 2, log 22). -/
def Obligations.CountdownAndDeferralExpire : Prop :=
  (∀ (id : Nat) (s : State),
    (∀ r, s.find id = some r → r.countdown ≠ none → s.mode ≠ .parked → s.orient.state ≠ .disturbed →
      exec (.countdownExpiry id) s
        = .next ((s.joined r (if r.state = .lost then .retry else .schedule) r.level false).thenDecides))
    ∧ ((∀ r, s.find id = some r → r.countdown = none) ∨ s.mode = .parked ∨ s.orient.state = .disturbed →
      exec (.countdownExpiry id) s = .next s))
  ∧ (∀ (id : Nat) (s : State),
    (∀ e r, s.entryOf id = some e → e.deferTimer ≠ none → s.find id = some r →
      exec (.deferralTimerExpiry id) s = .next { s with
        due := s.due.map fun x => if x.work.target = some id then { x with deferTimer := none } else x
        records := s.records.map fun x =>
          if x.id = id then { x with flags := { x.flags with overdue := true, news := true } } else x
        flags := { s.flags with overdue := true, news := true } })
    ∧ ((∀ e, s.entryOf id = some e → e.deferTimer = none) → exec (.deferralTimerExpiry id) s = .next s))

/-- DWELL_TIMER_EXPIRY (R84, R23, R33): the record becomes WAITING with its interval loaded and takes what the job found.

HOLD_TIMER_EXPIRY (R91): the POINT job ends EXPIRED, no command is sent for the end, and the start decision follows.

That each is taken while its timer runs, whatever time is left on it, is the model's choice (log 2). -/
def Obligations.DwellAndHoldEnd : Prop :=
  (∀ (s : State) (c : JobContext) (f : Found) (id : Nat) (r : TargetRecord) (x : FixedFields), StationOk s → OrientOk s →
    s.job = some c → c.phase = .dwell → c.dwellLeft ≠ none → c.found = some f → c.target = some id →
    s.find id = some r → (r.fields = .static x ∨ r.fields = .reference x) →
    ∃ t r', exec .dwellTimerExpiry s = .next t ∧ Frame s t ∧ t.find id = some r' ∧ r'.state = .waiting
      ∧ r'.countdown = some (x.interval * 1000) ∧ r'.confirmation = some ⟨f.mean, f.time, f.strength⟩
      ∧ r'.residual = some ⟨hzDiff c.aim f.mean, f.mean.v - c.aim.v⟩ ∧ r'.missCount = 0 ∧ r'.flags.ambiguous = false
      ∧ r'.flags.displaced = (r.flags.displaced || f.displaced)
      ∧ r'.flags.unoriented = (r.flags.unoriented || f.suppressed)
      ∧ r'.lastEnd = some (if f.displaced then .displaced else .confirmed)
      ∧ (f.displaced = true → r'.flags.news = true ∧ t.flags.displacement = true ∧ t.flags.news = true)
      ∧ (c.reason ≠ .reorient → r'.flags.news
          = (r.flags.news || f.displaced || (decide (0 < r.missCount) && c.notify.hearsAcquire))))
  ∧ (∀ (s : State) (c : JobContext) (ms : Nat), s.job = some c → c.kind = .point → c.target = none → c.reason = .host →
    c.phase = .hold → c.holdLeft = some (.ms ms) →
    exec .holdTimerExpiry s = .next (({ s with job := none, preempt := false } : State).thenStarts))

/-- SEARCH_LIMIT_EXPIRY (R109, R24): in the slew to a probe only the mark is set; else the job ends NOT_FOUND: the record is
LOST with one miss more and NEWS.

COAST_TIMER_EXPIRY (R141): steering ends and the job searches afresh about its prediction (R100), its first probe tested as
R104 states; a search that ends at once is followed by the start decision. With a first probe that no zone or limit skips, that
probe is slewed to. That Hz is sent before V is the model's choice (log 35), and so is that each is taken while its timer runs,
whatever time is left on it (log 2). -/
def Obligations.SearchLimitAndCoastEnd : Prop :=
  (∀ (s : State) (c : JobContext) (st : SearchState), s.job = some c → c.phase = .search → c.search = some st →
    c.searchLeft ≠ none →
    (st.stage = .slewing → exec .searchLimitExpiry s = .next { s with
        job := some { c with searchLeft := none, search := some { st with limitOut := true } } })
    ∧ (st.stage ≠ .slewing → ∀ id r, StationOk s → c.target = some id → s.find id = some r →
        ∃ t r', exec .searchLimitExpiry s = .next t ∧ Frame s t ∧ t.find id = some r' ∧ r'.state = .lost
          ∧ r'.lastEnd = some .notFound ∧ r'.missCount = min 255 (r.missCount + 1) ∧ r'.rate = none
          ∧ r'.flags.news = true ∧ r'.confirmation = r.confirmation ∧ r'.residual = r.residual
          ∧ r'.countdown = (if s.params.lostRetry = 0 then none else some (s.params.lostRetry * 1000))
          ∧ t.flags.lost = true ∧ t.flags.news = true))
  ∧ (∀ (s : State) (c : JobContext) (id : Nat) (r : TargetRecord) (p : Pattern), c.target = some id → s.find id = some r →
    s.drive.state = .steering → s.patterns[c.patternNumber]? = some p →
    let fresh : SearchState := ⟨c.patternNumber, p, p.innerCount, p.middleCount, p.outerCount, p.start,
      r.prediction s.clock, .slewing, 0, false, false⟩
    let ended : State := { s with drive := { s.drive with
      state := .ready, readyHz := false, readyV := false, wakeLimit := none, purpose := .none, awaitHz := false
      awaitV := false, moveLimit := none } }
    let u := s.coastExpires c
    u = ended.placeProbe { c with
        confirmCount := 0, sums := none, origin := none, reference := none, coastLeft := none
        searchLeft := some (c.config.searchLimit * 1000) } (fresh.test s.skips)
    ∧ (s.job = some c → c.phase = .coast → c.coastLeft ≠ none → s.preempt = false →
        exec .coastTimerExpiry s = .next (if u.job = none then u.thenStarts else u.settleDoze)))
  ∧ (∀ (s : State) (c : JobContext) (id : Nat) (r : TargetRecord) (p : Pattern), s.job = some c → c.phase = .coast →
    c.coastLeft ≠ none → s.preempt = false → c.target = some id → s.find id = some r →
    s.drive.state = .steering → s.patterns[c.patternNumber]? = some p →
    let centre := r.prediction s.clock
    let probe := Dir.add centre p.start
    vInLimits probe.v = true → inZones s.zones .shadow probe = false →
    ∃ t c' st, exec .coastTimerExpiry s = .next t ∧ Frame s t ∧ t.job = some c' ∧ c'.phase = .search
      ∧ c'.search = some st ∧ st.centre = centre ∧ st.pattern = p ∧ st.inner = p.innerCount
      ∧ st.middle = p.middleCount ∧ st.outer = p.outerCount ∧ st.offset = p.start ∧ st.stage = .slewing
      ∧ c'.searchLeft = some (c.config.searchLimit * 1000) ∧ c'.coastLeft = none
      ∧ t.drive.state = .slewing ∧ t.drive.purpose = .job ∧ t.records = s.records
      ∧ t.axisOut = s.axisOut ++ [.moveTo .hz probe.hz (s.drive.moveHz + 1), .moveTo .v probe.v (s.drive.moveV + 1)])

/-- QUANTUM_EXPIRY (R64, R143): a yield when an entry of the job's level is eligible, else a new quantum. That it is taken while the
quantum runs, whatever time is left on it, is the model's choice (log 2). -/
def Obligations.QuantumYields : Prop :=
  ∀ (s : State) (c : JobContext), s.job = some c → (c.phase = .track ∨ c.phase = .coast) → c.quantumLeft ≠ none →
    ((∀ e ∈ s.due, e.level = c.level → s.eligible e = false) →
      exec .quantumExpiry s = .next { s with
        job := some { c with quantumLeft := if c.quantum = 0 then none else some (c.quantum * 1000) } })
    ∧ (∀ id r, (∃ e ∈ s.due, e.level = c.level ∧ s.eligible e = true) → StationOk s → c.target = some id →
        s.find id = some r →
        ∃ t r', exec .quantumExpiry s = .next t ∧ Frame s t ∧ t.find id = some r' ∧ r'.lastEnd = some .yielded
          ∧ (r'.state = .due ∨ r'.state = .active) ∧ r'.confirmation = r.confirmation ∧ r'.rate = r.rate
          ∧ r'.missCount = r.missCount ∧ (r'.state = .due → r'.dueReason = some .schedule))

/-! ## The arbiter -/

/-- A start decision while PARKED, DISTURBED or in FAULT starts nothing and marks nothing (R53); it leaves the sensor off.

Eligibility (R54): the five conditions, and the aim that the zone test of an entry takes (FIGURE 25).

The choice of a decision (R55): the highest level with an occupied slot or an eligible entry, the slot first, else the
oldest eligible entry of that level.

The deferral marks of a decision (R57, FIGURE 27).

A decision that is not blocked marks the entries, the DEFERRED flags of the records following, and then starts the entry or
resumes the slot it has chosen (R55, R56): a context that ends at its resume leads to a decision again. -/
def Obligations.StartDecisionChooses : Prop :=
  (∀ s : State, s.mode = .parked ∨ s.orient.state = .disturbed ∨ s.drive.state = .fault →
    s.startDecision.records = s.records ∧ s.startDecision.due = s.due ∧ s.startDecision.job = s.job
      ∧ s.startDecision.slots = s.slots ∧ s.startDecision.drive = s.drive ∧ s.startDecision.axisOut = s.axisOut
      ∧ s.startDecision.sensorOn = false)
  ∧ (∀ (s : State) (e : Entry),
    let covered := fun d : Dir => ∃ z ∈ s.zones, z.kind = .shadow ∧ z.contains d = true
    (s.eligible e = true ↔ (s.mode = .active ∨ s.mode = .doze) ∧ s.drive.state ≠ .fault ∧ s.orient.state ≠ .disturbed
      ∧ (s.orient.state = .reorienting → e.reason = .reorient) ∧ s.entryShadowed e = false)
    ∧ (∀ id r, e.work = .visit id → s.find id = some r →
      (s.entryShadowed e = true ↔ covered ⟨(r.expected.hz + s.orient.offset) % turn, r.expected.v⟩))
    ∧ (∀ id r, e.work = .track id → s.find id = some r → (s.entryShadowed e = true ↔ covered (r.prediction s.clock)))
    ∧ (∀ aim hold, e.work = .point aim hold → s.entryShadowed e = false))
  ∧ (∀ s : State, (s.due.map (·.level)).Pairwise (· ≥ ·) →
    (s.choose = .nothing → s.slots.free ∧ ∀ e ∈ s.due, s.eligible e = false)
    ∧ (∀ k, s.choose = .slot k → (s.slots.get k).isSome = true ∧ (∀ j, k < j → s.slots.get j = none)
        ∧ ∀ e ∈ s.due, s.eligible e = true → e.level ≤ k)
    ∧ ∀ e, s.choose = .entry e → s.eligible e = true ∧ (∀ j, e.level ≤ j → s.slots.get j = none)
        ∧ ∃ before after, s.due = before ++ e :: after ∧ (∀ x ∈ before, s.eligible x = false)
          ∧ ∀ x ∈ after, x.level ≤ e.level)
  ∧ (∀ (s : State) (e : Entry),
    (s.orient.state = .reorienting → e.reason ≠ .reorient → s.markEntry e = e)
    ∧ (s.orient.state ≠ .reorienting ∨ e.reason = .reorient →
      (s.entryShadowed e = true → e.deferredSince = none →
        s.markEntry e = { e with deferredSince := some s.clock, deferTimer := some (s.params.deferLimit * 1000) })
      ∧ (s.entryShadowed e = true → e.deferredSince ≠ none → s.markEntry e = e)
      ∧ (s.entryShadowed e = false → s.markEntry e = { e with deferredSince := none, deferTimer := none })))
  ∧ (∀ s : State, s.mode ≠ .parked → s.orient.state ≠ .disturbed → s.drive.state ≠ .fault →
    let m := s.markDeferrals
    m.due = s.due.map s.markEntry
    ∧ m = { s with due := m.due, records := s.records.map fun r => match m.entryOf r.id with
        | none => r
        | some e => { r with flags := { r.flags with deferred := e.deferredSince.isSome } } }
    ∧ (m.choose = .nothing → s.startDecision = m.sensorSwitchOff)
    ∧ (∀ e, m.choose = .entry e → s.startDecision = m.startEntry e)
    ∧ (∀ k, m.choose = .slot k → ((m.resumeSlot k).job ≠ none → s.startDecision = m.resumeSlot k)
        ∧ ((m.resumeSlot k).job = none → s.startDecision = (m.resumeSlot k).startDecision)))

/-- The start of an entry (R55, R71 to R73): the entry leaves the list, its record is ACTIVE without due reason and DEFERRED,
the sensor is on, the context is built with its aim and its copies, and the drive is asked to move by its state.

The resume of a context (R56, R74, R111): it leaves its slot and its record is ACTIVE; outside SEARCH it ends SHADOWED when its
fresh aim is covered, and else begins anew with WAKE or SLEW, its counts and track state set back; in SEARCH it ends NOT_FOUND
when its limit had run out, and else its probe is tested afresh. That the aim is formed afresh in SEARCH too, and the look count
set to 0, is the model's reading of R73 and R77 (log 33). -/
def Obligations.JobsStartAndResume : Prop :=
  (∀ (s : State) (e : Entry) (id : Nat) (r : TargetRecord) (k : JobKind), s.find id = some r →
    (e.work = .visit id ∧ k = .visit) ∨ (e.work = .track id ∧ k = .track) →
    let aim : Dir := if k = .visit then ⟨(r.expected.hz + s.orient.offset) % turn, r.expected.v⟩ else r.prediction s.clock
    let quantum := r.fields.quantum?.getD 0
    let t := s.startEntry e
    t.due = s.due.filter (fun x => x.work != e.work)
    ∧ t.find id = some { r with state := .active, dueReason := none, flags := { r.flags with deferred := false } }
    ∧ switchesOn s t ∧ movesTo s t aim s.params.moveLimit
    ∧ t.job = some ⟨k, some id, e.level, e.reason, firstPhase s.drive.state, aim, 0, 0, 0, none, none, none, none, 0, none,
        [], none, none, none, none, (if k = .track ∧ 0 < quantum then some (quantum * 1000) else none), none, false, false,
        some ⟨r.level, r.fields.fixed?.map (·.tolerance), r.gate, r.band, r.fields.fixed?.map (·.dwell), r.pattern,
          r.fields.quantum?, r.notify⟩,
        configCopies s.params⟩)
  ∧ (∀ (s : State) (e : Entry) (aim : Dir) (hold : Nat), e.work = .point aim hold →
    let t := s.startEntry e
    t.due = s.due.filter (fun x => x.work != e.work) ∧ t.records = s.records
    ∧ switchesOn s t ∧ movesTo s t aim s.params.moveLimit
    ∧ t.job = some ⟨.point, none, e.level, e.reason, firstPhase s.drive.state, aim, 0, 0, 0, none, none, none, none, 0, none,
        [], none, some (if hold = 0 then .untilRelease else .ms hold), none, none, none, none, false, false, none,
        configCopies s.params⟩)
  ∧ (∀ (s : State) (k : Nat) (c : JobContext) (aim : Dir), s.slots.get k = some c →
    (c.kind = .point ∧ c.target = none ∧ aim = c.aim)
      ∨ (∃ id r, c.target = some id ∧ s.find id = some r
          ∧ ((c.kind = .visit ∧ aim = ⟨(r.expected.hz + s.orient.offset) % turn, r.expected.v⟩)
            ∨ (c.kind = .track ∧ aim = r.prediction s.clock))) →
    let t := s.resumeSlot k
    let back : State := { s with
      slots := s.slots.set k none, job := some c
      records := s.records.map fun r =>
        if c.target = some r.id then
          { r with state := .active, dueReason := none, flags := { r.flags with deferred := false } }
        else r }
    (c.phase ≠ .search → c.kind ≠ .point → inZones s.zones .shadow aim = true → t = back.finishJob .shadowed)
    ∧ (c.phase ≠ .search → c.kind = .point ∨ inZones s.zones .shadow aim = false →
        t.slots = s.slots.set k none ∧ t.records = back.records ∧ t.due = s.due
        ∧ switchesOn s t ∧ movesTo s t aim c.config.moveLimit
        ∧ t.job = some { c with
          phase := firstPhase s.drive.state, aim := aim, lookCount := 0, ambiguousCount := 0, confirmCount := 0
          sums := none, origin := none, reference := none, emptyCount := 0, previous := none, shadowMark := false
          coastLeft := none })
    ∧ (∀ st, c.phase = .search → c.search = some st →
        let on := back.sensorSwitchOn
        let ready : State := { on with drive := { on.drive with dozeDelay := none } }
        (st.limitOut = true → t = ready.finishJob .notFound)
        ∧ (st.limitOut = false → t = ready.placeProbe { c with aim := aim, lookCount := 0 }
            (({ st with frames := 0 } : SearchState).test s.skips))))

/-- Preemption by phase (R59, R61, FIGURE 28), when an eligible entry stands above the job: at once into the slot of its
level in WAKE, SLEW, LOOK, SEARCH, TRACK, COAST and HOLD, with its whole context but the remaining coast and, in SEARCH, the frame
count of its probe (R70, R89, R107, R110, R133); the pending mark in CONFIRM; the end of the dwell in DWELL. Without
such an entry the test does nothing, and neither does a test made with the mark set (R59).

The end of CONFIRM (R60, FIGURE 29): what follows the job's own act clears the mark of a job that has left CONFIRM and makes the
test afresh; the end of a job clears the mark, and the start decision follows it; else nothing but the doze delay is settled (log 7).

That the context kept in WAKE and SLEW holds what was left of the hold of a POINT that has held before is the model's reading of
R91 beside R50 and R70 (log 19). -/
def Obligations.PreemptionByPhase : Prop :=
  (∀ (s : State) (c : JobContext), s.job = some c → s.preempt = true → s.preemptionTest = s)
  ∧ (∀ (s : State) (c : JobContext) (reason : EndReason), s.job = some c →
    (s.finishJob reason).preempt = false ∧ (s.finishJob reason).job = none)
  ∧ (∀ s : State,
    (s.job = none → s.followUp = s.startDecision.settleDoze)
    ∧ ∀ c, s.job = some c →
      (s.preempt = true → c.phase ≠ .confirm →
        s.followUp = ({ s with preempt := false } : State).preemptionTest.settleDoze)
      ∧ (s.preempt = false ∨ c.phase = .confirm → s.followUp = s.settleDoze))
  ∧ ∀ (s : State) (c : JobContext), s.job = some c → s.preempt = false →
    ((∀ e ∈ s.due, c.level < e.level → s.eligible e = false) → s.preemptionTest = s)
    ∧ ((∃ e ∈ s.due, c.level < e.level ∧ s.eligible e = true) →
      (c.phase = .confirm → s.preemptionTest = { s with preempt := true })
      ∧ (∀ f, c.phase = .dwell → c.found = some f →
          s.preemptionTest = (s.finishJob (if f.displaced then .displaced else .confirmed)).startDecision)
      ∧ (c.phase ≠ .confirm → c.phase ≠ .dwell → StationOk s →
          ∃ j, s.preemptionTest.job = some j ∧ c.level < j.level
            ∧ s.preemptionTest.slots.get c.level = some { c with
                coastLeft := none
                search := if c.phase = .search then c.search.map fun st => { st with frames := 0 } else c.search }))

/-! ## Invariants -/

/-- Every step keeps the tables, the arbiter and the links of records, entries, jobs and slots (R3, R8 to R10, R47 to R50,
R53, R60, R95, R112, R148), in states whose countdowns stand where R32 has them. -/
def Obligations.StationStaysOk : Prop :=
  ∀ s t : State, StationOk s → CountdownsOk s → step s = .next t → StationOk t

/-- Every step keeps the rule of the countdowns (R32), in states whose links hold.

Every step keeps every record in its ranges, with a gate not less than its tolerance (R5, FIGURE 8), where no two records have
one id. -/
def Obligations.RecordsStayOk : Prop :=
  (∀ s t : State, StationOk s → CountdownsOk s → step s = .next t → CountdownsOk t)
  ∧ (∀ s t : State, StationOk s → (∀ r ∈ s.records, RecordOk r) → step s = .next t → ∀ r ∈ t.records, RecordOk r)

/-- Every step keeps what the drive holds by its state, the park only while PARKED, and the doze delay only where it runs
(R158 to R171). -/
def Obligations.DriveStaysOk : Prop :=
  ∀ s t : State, StationOk s → RestOk s → step s = .next t → RestOk t

/-- Every step keeps the job's phase and the drive together, and every aim inside the V limits (R1, R74 to R76, R104, R115,
R134, R141). -/
def Obligations.DutyStaysOk : Prop :=
  ∀ s t : State, StationOk s → RestOk s → DutyOk s → step s = .next t → DutyOk t

/-- Every step keeps the rule of the reorientation: REORIENT entries at level 3 and only in REORIENTING, which is open as
long as work of that reason is left (R177 to R179, R182). -/
def Obligations.OrientationStaysOk : Prop :=
  ∀ s t : State, StationOk s → OrientOk s → step s = .next t → OrientOk t

/-- What no event of an axis, the sensor, the tilt sensor or a timer changes (R6, R42, R71, R95, R188, R191): the station
mode, the clock, the configuration, the patterns, the zones, the mask, the port, the queue, and the host's fields of every
record, the expected direction among them. The expiry of a zone's lifetime changes the zones and none of the others. -/
def Obligations.EventsKeepHostFields : Prop :=
  (∀ (s : State) (id : Nat), ∃ t, exec (.zoneLifetimeExpiry id) s = .next t ∧ t.kept = { s.kept with zones := t.zones })
  ∧ ∀ (s : State) (c : Instr),
    ((∃ axis, c = .readyReport axis) ∨ (∃ axis p m, c = .atPosition axis p m) ∨ (∃ axis, c = .stalled axis)
      ∨ (∃ axis code, c = .fault axis code) ∨ (∃ bytes, c = .sensorFrame bytes) ∨ (∃ x y, c = .tiltSample x y)
      ∨ (∃ id, c = .countdownExpiry id) ∨ (∃ id, c = .deferralTimerExpiry id) ∨ c = .dwellTimerExpiry
      ∨ c = .holdTimerExpiry ∨ c = .searchLimitExpiry ∨ c = .coastTimerExpiry ∨ c = .quantumExpiry
      ∨ c = .wakeLimitExpiry ∨ c = .moveLimitExpiry ∨ c = .dozeDelayExpiry) →
    ∃ t, exec c s = .next t ∧ Frame s t
end

