-- ==== Sys2Proof/Laws/State.lean ====
section
/-!
SUPPORT. One lemma for every field under every named update of State, so that no proof unfolds a record update.
-/

namespace Sys2Proof.Machine

variable (s : State)

/-! ## withRecords -/

@[simp] theorem State.port_withRecords (x : List TargetRecord) : (s.withRecords x).port = s.port := rfl
@[simp] theorem State.records_withRecords (x : List TargetRecord) : (s.withRecords x).records = x := rfl
@[simp] theorem State.clock_withRecords (x : List TargetRecord) : (s.withRecords x).clock = s.clock := rfl
@[simp] theorem State.due_withRecords (x : List TargetRecord) : (s.withRecords x).due = s.due := rfl
@[simp] theorem State.slots_withRecords (x : List TargetRecord) : (s.withRecords x).slots = s.slots := rfl
@[simp] theorem State.mode_withRecords (x : List TargetRecord) : (s.withRecords x).mode = s.mode := rfl
@[simp] theorem State.preempt_withRecords (x : List TargetRecord) : (s.withRecords x).preempt = s.preempt := rfl
@[simp] theorem State.job_withRecords (x : List TargetRecord) : (s.withRecords x).job = s.job := rfl
@[simp] theorem State.patterns_withRecords (x : List TargetRecord) : (s.withRecords x).patterns = s.patterns := rfl
@[simp] theorem State.sensorOn_withRecords (x : List TargetRecord) : (s.withRecords x).sensorOn = s.sensorOn := rfl
@[simp] theorem State.lastFrame_withRecords (x : List TargetRecord) : (s.withRecords x).lastFrame = s.lastFrame := rfl
@[simp] theorem State.zones_withRecords (x : List TargetRecord) : (s.withRecords x).zones = s.zones := rfl
@[simp] theorem State.drive_withRecords (x : List TargetRecord) : (s.withRecords x).drive = s.drive := rfl
@[simp] theorem State.orient_withRecords (x : List TargetRecord) : (s.withRecords x).orient = s.orient := rfl
@[simp] theorem State.flags_withRecords (x : List TargetRecord) : (s.withRecords x).flags = s.flags := rfl
@[simp] theorem State.mask_withRecords (x : List TargetRecord) : (s.withRecords x).mask = s.mask := rfl
@[simp] theorem State.params_withRecords (x : List TargetRecord) : (s.withRecords x).params = s.params := rfl
@[simp] theorem State.axisOut_withRecords (x : List TargetRecord) : (s.withRecords x).axisOut = s.axisOut := rfl
@[simp] theorem State.sensorOut_withRecords (x : List TargetRecord) : (s.withRecords x).sensorOut = s.sensorOut := rfl
@[simp] theorem State.spiOut_withRecords (x : List TargetRecord) : (s.withRecords x).spiOut = s.spiOut := rfl
@[simp] theorem State.pending_withRecords (x : List TargetRecord) : (s.withRecords x).pending = s.pending := rfl
@[simp] theorem State.choices_withRecords (x : List TargetRecord) : (s.withRecords x).choices = s.choices := rfl

/-! ## withDue -/

@[simp] theorem State.port_withDue (x : List Entry) : (s.withDue x).port = s.port := rfl
@[simp] theorem State.records_withDue (x : List Entry) : (s.withDue x).records = s.records := rfl
@[simp] theorem State.clock_withDue (x : List Entry) : (s.withDue x).clock = s.clock := rfl
@[simp] theorem State.due_withDue (x : List Entry) : (s.withDue x).due = x := rfl
@[simp] theorem State.slots_withDue (x : List Entry) : (s.withDue x).slots = s.slots := rfl
@[simp] theorem State.mode_withDue (x : List Entry) : (s.withDue x).mode = s.mode := rfl
@[simp] theorem State.preempt_withDue (x : List Entry) : (s.withDue x).preempt = s.preempt := rfl
@[simp] theorem State.job_withDue (x : List Entry) : (s.withDue x).job = s.job := rfl
@[simp] theorem State.patterns_withDue (x : List Entry) : (s.withDue x).patterns = s.patterns := rfl
@[simp] theorem State.sensorOn_withDue (x : List Entry) : (s.withDue x).sensorOn = s.sensorOn := rfl
@[simp] theorem State.lastFrame_withDue (x : List Entry) : (s.withDue x).lastFrame = s.lastFrame := rfl
@[simp] theorem State.zones_withDue (x : List Entry) : (s.withDue x).zones = s.zones := rfl
@[simp] theorem State.drive_withDue (x : List Entry) : (s.withDue x).drive = s.drive := rfl
@[simp] theorem State.orient_withDue (x : List Entry) : (s.withDue x).orient = s.orient := rfl
@[simp] theorem State.flags_withDue (x : List Entry) : (s.withDue x).flags = s.flags := rfl
@[simp] theorem State.mask_withDue (x : List Entry) : (s.withDue x).mask = s.mask := rfl
@[simp] theorem State.params_withDue (x : List Entry) : (s.withDue x).params = s.params := rfl
@[simp] theorem State.axisOut_withDue (x : List Entry) : (s.withDue x).axisOut = s.axisOut := rfl
@[simp] theorem State.sensorOut_withDue (x : List Entry) : (s.withDue x).sensorOut = s.sensorOut := rfl
@[simp] theorem State.spiOut_withDue (x : List Entry) : (s.withDue x).spiOut = s.spiOut := rfl
@[simp] theorem State.pending_withDue (x : List Entry) : (s.withDue x).pending = s.pending := rfl
@[simp] theorem State.choices_withDue (x : List Entry) : (s.withDue x).choices = s.choices := rfl

/-! ## withSlots -/

@[simp] theorem State.port_withSlots (x : Slots) : (s.withSlots x).port = s.port := rfl
@[simp] theorem State.records_withSlots (x : Slots) : (s.withSlots x).records = s.records := rfl
@[simp] theorem State.clock_withSlots (x : Slots) : (s.withSlots x).clock = s.clock := rfl
@[simp] theorem State.due_withSlots (x : Slots) : (s.withSlots x).due = s.due := rfl
@[simp] theorem State.slots_withSlots (x : Slots) : (s.withSlots x).slots = x := rfl
@[simp] theorem State.mode_withSlots (x : Slots) : (s.withSlots x).mode = s.mode := rfl
@[simp] theorem State.preempt_withSlots (x : Slots) : (s.withSlots x).preempt = s.preempt := rfl
@[simp] theorem State.job_withSlots (x : Slots) : (s.withSlots x).job = s.job := rfl
@[simp] theorem State.patterns_withSlots (x : Slots) : (s.withSlots x).patterns = s.patterns := rfl
@[simp] theorem State.sensorOn_withSlots (x : Slots) : (s.withSlots x).sensorOn = s.sensorOn := rfl
@[simp] theorem State.lastFrame_withSlots (x : Slots) : (s.withSlots x).lastFrame = s.lastFrame := rfl
@[simp] theorem State.zones_withSlots (x : Slots) : (s.withSlots x).zones = s.zones := rfl
@[simp] theorem State.drive_withSlots (x : Slots) : (s.withSlots x).drive = s.drive := rfl
@[simp] theorem State.orient_withSlots (x : Slots) : (s.withSlots x).orient = s.orient := rfl
@[simp] theorem State.flags_withSlots (x : Slots) : (s.withSlots x).flags = s.flags := rfl
@[simp] theorem State.mask_withSlots (x : Slots) : (s.withSlots x).mask = s.mask := rfl
@[simp] theorem State.params_withSlots (x : Slots) : (s.withSlots x).params = s.params := rfl
@[simp] theorem State.axisOut_withSlots (x : Slots) : (s.withSlots x).axisOut = s.axisOut := rfl
@[simp] theorem State.sensorOut_withSlots (x : Slots) : (s.withSlots x).sensorOut = s.sensorOut := rfl
@[simp] theorem State.spiOut_withSlots (x : Slots) : (s.withSlots x).spiOut = s.spiOut := rfl
@[simp] theorem State.pending_withSlots (x : Slots) : (s.withSlots x).pending = s.pending := rfl
@[simp] theorem State.choices_withSlots (x : Slots) : (s.withSlots x).choices = s.choices := rfl

/-! ## withJob -/

@[simp] theorem State.port_withJob (x : Option JobContext) : (s.withJob x).port = s.port := rfl
@[simp] theorem State.records_withJob (x : Option JobContext) : (s.withJob x).records = s.records := rfl
@[simp] theorem State.clock_withJob (x : Option JobContext) : (s.withJob x).clock = s.clock := rfl
@[simp] theorem State.due_withJob (x : Option JobContext) : (s.withJob x).due = s.due := rfl
@[simp] theorem State.slots_withJob (x : Option JobContext) : (s.withJob x).slots = s.slots := rfl
@[simp] theorem State.mode_withJob (x : Option JobContext) : (s.withJob x).mode = s.mode := rfl
@[simp] theorem State.preempt_withJob (x : Option JobContext) : (s.withJob x).preempt = s.preempt := rfl
@[simp] theorem State.job_withJob (x : Option JobContext) : (s.withJob x).job = x := rfl
@[simp] theorem State.patterns_withJob (x : Option JobContext) : (s.withJob x).patterns = s.patterns := rfl
@[simp] theorem State.sensorOn_withJob (x : Option JobContext) : (s.withJob x).sensorOn = s.sensorOn := rfl
@[simp] theorem State.lastFrame_withJob (x : Option JobContext) : (s.withJob x).lastFrame = s.lastFrame := rfl
@[simp] theorem State.zones_withJob (x : Option JobContext) : (s.withJob x).zones = s.zones := rfl
@[simp] theorem State.drive_withJob (x : Option JobContext) : (s.withJob x).drive = s.drive := rfl
@[simp] theorem State.orient_withJob (x : Option JobContext) : (s.withJob x).orient = s.orient := rfl
@[simp] theorem State.flags_withJob (x : Option JobContext) : (s.withJob x).flags = s.flags := rfl
@[simp] theorem State.mask_withJob (x : Option JobContext) : (s.withJob x).mask = s.mask := rfl
@[simp] theorem State.params_withJob (x : Option JobContext) : (s.withJob x).params = s.params := rfl
@[simp] theorem State.axisOut_withJob (x : Option JobContext) : (s.withJob x).axisOut = s.axisOut := rfl
@[simp] theorem State.sensorOut_withJob (x : Option JobContext) : (s.withJob x).sensorOut = s.sensorOut := rfl
@[simp] theorem State.spiOut_withJob (x : Option JobContext) : (s.withJob x).spiOut = s.spiOut := rfl
@[simp] theorem State.pending_withJob (x : Option JobContext) : (s.withJob x).pending = s.pending := rfl
@[simp] theorem State.choices_withJob (x : Option JobContext) : (s.withJob x).choices = s.choices := rfl

/-! ## withPreempt -/

@[simp] theorem State.port_withPreempt (x : Bool) : (s.withPreempt x).port = s.port := rfl
@[simp] theorem State.records_withPreempt (x : Bool) : (s.withPreempt x).records = s.records := rfl
@[simp] theorem State.clock_withPreempt (x : Bool) : (s.withPreempt x).clock = s.clock := rfl
@[simp] theorem State.due_withPreempt (x : Bool) : (s.withPreempt x).due = s.due := rfl
@[simp] theorem State.slots_withPreempt (x : Bool) : (s.withPreempt x).slots = s.slots := rfl
@[simp] theorem State.mode_withPreempt (x : Bool) : (s.withPreempt x).mode = s.mode := rfl
@[simp] theorem State.preempt_withPreempt (x : Bool) : (s.withPreempt x).preempt = x := rfl
@[simp] theorem State.job_withPreempt (x : Bool) : (s.withPreempt x).job = s.job := rfl
@[simp] theorem State.patterns_withPreempt (x : Bool) : (s.withPreempt x).patterns = s.patterns := rfl
@[simp] theorem State.sensorOn_withPreempt (x : Bool) : (s.withPreempt x).sensorOn = s.sensorOn := rfl
@[simp] theorem State.lastFrame_withPreempt (x : Bool) : (s.withPreempt x).lastFrame = s.lastFrame := rfl
@[simp] theorem State.zones_withPreempt (x : Bool) : (s.withPreempt x).zones = s.zones := rfl
@[simp] theorem State.drive_withPreempt (x : Bool) : (s.withPreempt x).drive = s.drive := rfl
@[simp] theorem State.orient_withPreempt (x : Bool) : (s.withPreempt x).orient = s.orient := rfl
@[simp] theorem State.flags_withPreempt (x : Bool) : (s.withPreempt x).flags = s.flags := rfl
@[simp] theorem State.mask_withPreempt (x : Bool) : (s.withPreempt x).mask = s.mask := rfl
@[simp] theorem State.params_withPreempt (x : Bool) : (s.withPreempt x).params = s.params := rfl
@[simp] theorem State.axisOut_withPreempt (x : Bool) : (s.withPreempt x).axisOut = s.axisOut := rfl
@[simp] theorem State.sensorOut_withPreempt (x : Bool) : (s.withPreempt x).sensorOut = s.sensorOut := rfl
@[simp] theorem State.spiOut_withPreempt (x : Bool) : (s.withPreempt x).spiOut = s.spiOut := rfl
@[simp] theorem State.pending_withPreempt (x : Bool) : (s.withPreempt x).pending = s.pending := rfl
@[simp] theorem State.choices_withPreempt (x : Bool) : (s.withPreempt x).choices = s.choices := rfl

/-! ## withDrive -/

@[simp] theorem State.port_withDrive (x : Drive) : (s.withDrive x).port = s.port := rfl
@[simp] theorem State.records_withDrive (x : Drive) : (s.withDrive x).records = s.records := rfl
@[simp] theorem State.clock_withDrive (x : Drive) : (s.withDrive x).clock = s.clock := rfl
@[simp] theorem State.due_withDrive (x : Drive) : (s.withDrive x).due = s.due := rfl
@[simp] theorem State.slots_withDrive (x : Drive) : (s.withDrive x).slots = s.slots := rfl
@[simp] theorem State.mode_withDrive (x : Drive) : (s.withDrive x).mode = s.mode := rfl
@[simp] theorem State.preempt_withDrive (x : Drive) : (s.withDrive x).preempt = s.preempt := rfl
@[simp] theorem State.job_withDrive (x : Drive) : (s.withDrive x).job = s.job := rfl
@[simp] theorem State.patterns_withDrive (x : Drive) : (s.withDrive x).patterns = s.patterns := rfl
@[simp] theorem State.sensorOn_withDrive (x : Drive) : (s.withDrive x).sensorOn = s.sensorOn := rfl
@[simp] theorem State.lastFrame_withDrive (x : Drive) : (s.withDrive x).lastFrame = s.lastFrame := rfl
@[simp] theorem State.zones_withDrive (x : Drive) : (s.withDrive x).zones = s.zones := rfl
@[simp] theorem State.drive_withDrive (x : Drive) : (s.withDrive x).drive = x := rfl
@[simp] theorem State.orient_withDrive (x : Drive) : (s.withDrive x).orient = s.orient := rfl
@[simp] theorem State.flags_withDrive (x : Drive) : (s.withDrive x).flags = s.flags := rfl
@[simp] theorem State.mask_withDrive (x : Drive) : (s.withDrive x).mask = s.mask := rfl
@[simp] theorem State.params_withDrive (x : Drive) : (s.withDrive x).params = s.params := rfl
@[simp] theorem State.axisOut_withDrive (x : Drive) : (s.withDrive x).axisOut = s.axisOut := rfl
@[simp] theorem State.sensorOut_withDrive (x : Drive) : (s.withDrive x).sensorOut = s.sensorOut := rfl
@[simp] theorem State.spiOut_withDrive (x : Drive) : (s.withDrive x).spiOut = s.spiOut := rfl
@[simp] theorem State.pending_withDrive (x : Drive) : (s.withDrive x).pending = s.pending := rfl
@[simp] theorem State.choices_withDrive (x : Drive) : (s.withDrive x).choices = s.choices := rfl

/-! ## withOrient -/

@[simp] theorem State.port_withOrient (x : Orientation) : (s.withOrient x).port = s.port := rfl
@[simp] theorem State.records_withOrient (x : Orientation) : (s.withOrient x).records = s.records := rfl
@[simp] theorem State.clock_withOrient (x : Orientation) : (s.withOrient x).clock = s.clock := rfl
@[simp] theorem State.due_withOrient (x : Orientation) : (s.withOrient x).due = s.due := rfl
@[simp] theorem State.slots_withOrient (x : Orientation) : (s.withOrient x).slots = s.slots := rfl
@[simp] theorem State.mode_withOrient (x : Orientation) : (s.withOrient x).mode = s.mode := rfl
@[simp] theorem State.preempt_withOrient (x : Orientation) : (s.withOrient x).preempt = s.preempt := rfl
@[simp] theorem State.job_withOrient (x : Orientation) : (s.withOrient x).job = s.job := rfl
@[simp] theorem State.patterns_withOrient (x : Orientation) : (s.withOrient x).patterns = s.patterns := rfl
@[simp] theorem State.sensorOn_withOrient (x : Orientation) : (s.withOrient x).sensorOn = s.sensorOn := rfl
@[simp] theorem State.lastFrame_withOrient (x : Orientation) : (s.withOrient x).lastFrame = s.lastFrame := rfl
@[simp] theorem State.zones_withOrient (x : Orientation) : (s.withOrient x).zones = s.zones := rfl
@[simp] theorem State.drive_withOrient (x : Orientation) : (s.withOrient x).drive = s.drive := rfl
@[simp] theorem State.orient_withOrient (x : Orientation) : (s.withOrient x).orient = x := rfl
@[simp] theorem State.flags_withOrient (x : Orientation) : (s.withOrient x).flags = s.flags := rfl
@[simp] theorem State.mask_withOrient (x : Orientation) : (s.withOrient x).mask = s.mask := rfl
@[simp] theorem State.params_withOrient (x : Orientation) : (s.withOrient x).params = s.params := rfl
@[simp] theorem State.axisOut_withOrient (x : Orientation) : (s.withOrient x).axisOut = s.axisOut := rfl
@[simp] theorem State.sensorOut_withOrient (x : Orientation) : (s.withOrient x).sensorOut = s.sensorOut := rfl
@[simp] theorem State.spiOut_withOrient (x : Orientation) : (s.withOrient x).spiOut = s.spiOut := rfl
@[simp] theorem State.pending_withOrient (x : Orientation) : (s.withOrient x).pending = s.pending := rfl
@[simp] theorem State.choices_withOrient (x : Orientation) : (s.withOrient x).choices = s.choices := rfl

/-! ## withFlags -/

@[simp] theorem State.port_withFlags (x : Attention) : (s.withFlags x).port = s.port := rfl
@[simp] theorem State.records_withFlags (x : Attention) : (s.withFlags x).records = s.records := rfl
@[simp] theorem State.clock_withFlags (x : Attention) : (s.withFlags x).clock = s.clock := rfl
@[simp] theorem State.due_withFlags (x : Attention) : (s.withFlags x).due = s.due := rfl
@[simp] theorem State.slots_withFlags (x : Attention) : (s.withFlags x).slots = s.slots := rfl
@[simp] theorem State.mode_withFlags (x : Attention) : (s.withFlags x).mode = s.mode := rfl
@[simp] theorem State.preempt_withFlags (x : Attention) : (s.withFlags x).preempt = s.preempt := rfl
@[simp] theorem State.job_withFlags (x : Attention) : (s.withFlags x).job = s.job := rfl
@[simp] theorem State.patterns_withFlags (x : Attention) : (s.withFlags x).patterns = s.patterns := rfl
@[simp] theorem State.sensorOn_withFlags (x : Attention) : (s.withFlags x).sensorOn = s.sensorOn := rfl
@[simp] theorem State.lastFrame_withFlags (x : Attention) : (s.withFlags x).lastFrame = s.lastFrame := rfl
@[simp] theorem State.zones_withFlags (x : Attention) : (s.withFlags x).zones = s.zones := rfl
@[simp] theorem State.drive_withFlags (x : Attention) : (s.withFlags x).drive = s.drive := rfl
@[simp] theorem State.orient_withFlags (x : Attention) : (s.withFlags x).orient = s.orient := rfl
@[simp] theorem State.flags_withFlags (x : Attention) : (s.withFlags x).flags = x := rfl
@[simp] theorem State.mask_withFlags (x : Attention) : (s.withFlags x).mask = s.mask := rfl
@[simp] theorem State.params_withFlags (x : Attention) : (s.withFlags x).params = s.params := rfl
@[simp] theorem State.axisOut_withFlags (x : Attention) : (s.withFlags x).axisOut = s.axisOut := rfl
@[simp] theorem State.sensorOut_withFlags (x : Attention) : (s.withFlags x).sensorOut = s.sensorOut := rfl
@[simp] theorem State.spiOut_withFlags (x : Attention) : (s.withFlags x).spiOut = s.spiOut := rfl
@[simp] theorem State.pending_withFlags (x : Attention) : (s.withFlags x).pending = s.pending := rfl
@[simp] theorem State.choices_withFlags (x : Attention) : (s.withFlags x).choices = s.choices := rfl

/-! ## withZones -/

@[simp] theorem State.port_withZones (x : List Zone) : (s.withZones x).port = s.port := rfl
@[simp] theorem State.records_withZones (x : List Zone) : (s.withZones x).records = s.records := rfl
@[simp] theorem State.clock_withZones (x : List Zone) : (s.withZones x).clock = s.clock := rfl
@[simp] theorem State.due_withZones (x : List Zone) : (s.withZones x).due = s.due := rfl
@[simp] theorem State.slots_withZones (x : List Zone) : (s.withZones x).slots = s.slots := rfl
@[simp] theorem State.mode_withZones (x : List Zone) : (s.withZones x).mode = s.mode := rfl
@[simp] theorem State.preempt_withZones (x : List Zone) : (s.withZones x).preempt = s.preempt := rfl
@[simp] theorem State.job_withZones (x : List Zone) : (s.withZones x).job = s.job := rfl
@[simp] theorem State.patterns_withZones (x : List Zone) : (s.withZones x).patterns = s.patterns := rfl
@[simp] theorem State.sensorOn_withZones (x : List Zone) : (s.withZones x).sensorOn = s.sensorOn := rfl
@[simp] theorem State.lastFrame_withZones (x : List Zone) : (s.withZones x).lastFrame = s.lastFrame := rfl
@[simp] theorem State.zones_withZones (x : List Zone) : (s.withZones x).zones = x := rfl
@[simp] theorem State.drive_withZones (x : List Zone) : (s.withZones x).drive = s.drive := rfl
@[simp] theorem State.orient_withZones (x : List Zone) : (s.withZones x).orient = s.orient := rfl
@[simp] theorem State.flags_withZones (x : List Zone) : (s.withZones x).flags = s.flags := rfl
@[simp] theorem State.mask_withZones (x : List Zone) : (s.withZones x).mask = s.mask := rfl
@[simp] theorem State.params_withZones (x : List Zone) : (s.withZones x).params = s.params := rfl
@[simp] theorem State.axisOut_withZones (x : List Zone) : (s.withZones x).axisOut = s.axisOut := rfl
@[simp] theorem State.sensorOut_withZones (x : List Zone) : (s.withZones x).sensorOut = s.sensorOut := rfl
@[simp] theorem State.spiOut_withZones (x : List Zone) : (s.withZones x).spiOut = s.spiOut := rfl
@[simp] theorem State.pending_withZones (x : List Zone) : (s.withZones x).pending = s.pending := rfl
@[simp] theorem State.choices_withZones (x : List Zone) : (s.withZones x).choices = s.choices := rfl

/-! ## sendAxis -/

@[simp] theorem State.port_sendAxis (x : List AxisCommand) : (s.sendAxis x).port = s.port := rfl
@[simp] theorem State.records_sendAxis (x : List AxisCommand) : (s.sendAxis x).records = s.records := rfl
@[simp] theorem State.clock_sendAxis (x : List AxisCommand) : (s.sendAxis x).clock = s.clock := rfl
@[simp] theorem State.due_sendAxis (x : List AxisCommand) : (s.sendAxis x).due = s.due := rfl
@[simp] theorem State.slots_sendAxis (x : List AxisCommand) : (s.sendAxis x).slots = s.slots := rfl
@[simp] theorem State.mode_sendAxis (x : List AxisCommand) : (s.sendAxis x).mode = s.mode := rfl
@[simp] theorem State.preempt_sendAxis (x : List AxisCommand) : (s.sendAxis x).preempt = s.preempt := rfl
@[simp] theorem State.job_sendAxis (x : List AxisCommand) : (s.sendAxis x).job = s.job := rfl
@[simp] theorem State.patterns_sendAxis (x : List AxisCommand) : (s.sendAxis x).patterns = s.patterns := rfl
@[simp] theorem State.sensorOn_sendAxis (x : List AxisCommand) : (s.sendAxis x).sensorOn = s.sensorOn := rfl
@[simp] theorem State.lastFrame_sendAxis (x : List AxisCommand) : (s.sendAxis x).lastFrame = s.lastFrame := rfl
@[simp] theorem State.zones_sendAxis (x : List AxisCommand) : (s.sendAxis x).zones = s.zones := rfl
@[simp] theorem State.drive_sendAxis (x : List AxisCommand) : (s.sendAxis x).drive = s.drive := rfl
@[simp] theorem State.orient_sendAxis (x : List AxisCommand) : (s.sendAxis x).orient = s.orient := rfl
@[simp] theorem State.flags_sendAxis (x : List AxisCommand) : (s.sendAxis x).flags = s.flags := rfl
@[simp] theorem State.mask_sendAxis (x : List AxisCommand) : (s.sendAxis x).mask = s.mask := rfl
@[simp] theorem State.params_sendAxis (x : List AxisCommand) : (s.sendAxis x).params = s.params := rfl
@[simp] theorem State.axisOut_sendAxis (x : List AxisCommand) : (s.sendAxis x).axisOut = s.axisOut ++ x := rfl
@[simp] theorem State.sensorOut_sendAxis (x : List AxisCommand) : (s.sendAxis x).sensorOut = s.sensorOut := rfl
@[simp] theorem State.spiOut_sendAxis (x : List AxisCommand) : (s.sendAxis x).spiOut = s.spiOut := rfl
@[simp] theorem State.pending_sendAxis (x : List AxisCommand) : (s.sendAxis x).pending = s.pending := rfl
@[simp] theorem State.choices_sendAxis (x : List AxisCommand) : (s.sendAxis x).choices = s.choices := rfl

end Sys2Proof.Machine
end

