-- ==== Sys2Proof/Laws/Arbiter.lean ====
section
/-!
SUPPORT. Searches and the Arbiter (spec 03, spec 05): what an advance leaves of a pass, how the scan of a pass unfolds, and what
a decision comes to.
-/

namespace Sys2Proof.Machine

/-! ## Searches (R102 to R104) -/

/-- An advance leaves one probe fewer (FIGURE 53). -/
theorem probesLeft_advance (st st' : SearchState) (h : st.advance = some st') : st'.probesLeft + 1 = st.probesLeft := by
  unfold SearchState.advance at h
  unfold SearchState.probesLeft
  rcases st with ⟨n, p, i, m, o, off, ce, sg, f, ps, lo⟩
  simp only at h ⊢
  split at h
  · obtain rfl := Option.some.inj h
    cases p.mode <;> simp only <;> omega
  · cases hm : p.mode <;> simp only [hm] at h ⊢
    · cases h
    · split at h
      · obtain rfl := Option.some.inj h
        simp only [hm]
        obtain ⟨k, rfl⟩ : ∃ k, m = k + 1 := ⟨m - 1, by omega⟩
        simp only [Nat.add_sub_cancel, Nat.add_mul]; omega
      · cases h
    · split at h
      · obtain rfl := Option.some.inj h
        simp only [hm]
        obtain ⟨k, rfl⟩ : ∃ k, m = k + 1 := ⟨m - 1, by omega⟩
        simp only [Nat.add_sub_cancel, Nat.add_mul]; omega
      · split at h
        · obtain rfl := Option.some.inj h
          simp only [hm]
          obtain ⟨k, rfl⟩ : ∃ k, o = k + 1 := ⟨o - 1, by omega⟩
          simp only [Nat.add_sub_cancel, Nat.add_mul, Nat.mul_add]
          have : m = 0 := by omega
          subst this
          have : i = 0 := by omega
          subst this
          simp only [Nat.mul_comm p.middleCount]
          omega
        · cases h

/-- There is always a probe in hand. -/
theorem probesLeft_pos (st : SearchState) : 0 < st.probesLeft := by
  unfold SearchState.probesLeft; simp only; cases st.pattern.mode <;> simp only [] <;> omega

/-- The end of a pass is the same whichever of its probes it is taken from. -/
theorem passDone_advance (st st' : SearchState) (skip : Dir → Bool) (h : st.advance = some st') :
    st'.passDone skip = st.passDone skip := by
  have key : st'.pattern = st.pattern ∧ st'.passSlewed = st.passSlewed ∧ st'.restart = st.restart := by
    unfold SearchState.advance at h
    simp only at h
    repeat' split at h
    all_goals first
      | contradiction
      | (obtain rfl := Option.some.inj h; exact ⟨rfl, rfl, rfl⟩)
  obtain ⟨hp, hs, hr⟩ := key
  unfold SearchState.passDone
  rw [hp, hs, hr]

/-- A probe that is not skipped is slewed to (R104). -/
theorem test_kept (st : SearchState) (skip : Dir → Bool) (h : skip st.direction = false) : st.test skip = st.slewed := by
  obtain ⟨n, hn⟩ : ∃ n, st.probesLeft = n + 1 := ⟨st.probesLeft - 1, by have := probesLeft_pos st; omega⟩
  simp [SearchState.test, hn, scanPass, h]

/-- A probe that is skipped makes its advance at the same event (R104). -/
theorem test_skipped (st : SearchState) (skip : Dir → Bool) (h : skip st.direction = true) : st.test skip = st.next skip := by
  obtain ⟨n, hn⟩ : ∃ n, st.probesLeft = n + 1 := ⟨st.probesLeft - 1, by have := probesLeft_pos st; omega⟩
  unfold SearchState.test SearchState.next
  rw [hn, scanPass, if_pos h]
  cases ha : st.advance with
  | none => rfl
  | some st' =>
    have : st'.probesLeft = n := by have := probesLeft_advance st st' ha; omega
    simp only [SearchState.test, this, passDone_advance st st' skip ha]

/-! ## Decisions (R53, R55) -/

/-- A blocked decision starts nothing and marks nothing (R53). -/
theorem startDecision_blocked (s : State) (h : s.blocked = true) : s.startDecision = s.sensorSwitchOff := by
  simp [State.startDecision, State.decideWithin, h, State.idle]

/-- An unblocked decision that chooses nothing leaves the telescope idle. -/
theorem startDecision_nothing (s : State) (h : s.blocked = false) (hc : s.markDeferrals.choose = .nothing) :
    s.startDecision = s.markDeferrals.sensorSwitchOff := by
  simp [State.startDecision, State.decideWithin, h, hc, State.idle]

/-- An unblocked decision that chooses an entry starts it. -/
theorem startDecision_entry (s : State) (e : Entry) (h : s.blocked = false) (hc : s.markDeferrals.choose = .entry e) :
    s.startDecision = s.markDeferrals.startEntry e := by
  simp [State.startDecision, State.decideWithin, h, hc]

/-- An unblocked decision that chooses a slot resumes it; the job that goes on is what it leaves. -/
theorem startDecision_slot (s : State) (k : Nat) (h : s.blocked = false) (hc : s.markDeferrals.choose = .slot k)
    (hj : (s.markDeferrals.resumeSlot k).job ≠ none) : s.startDecision = s.markDeferrals.resumeSlot k := by
  simp [State.startDecision, State.decideWithin, h, hc, hj]

end Sys2Proof.Machine
end

