-- ==== Sys2Proof/Laws/Bytes.lean ====
section
/-!
SUPPORT. Numbers in bytes (R193): lengths, and reading back what was written.
-/

namespace Sys2Proof.Machine

@[simp] theorem length_beU (n x : Nat) : (beU n x).length = n := by
  induction n with
  | zero => rfl
  | succ n ih => simp [beU, ih]

@[simp] theorem length_beS (n : Nat) (x : Int) : (beS n x).length = n := length_beU n _

/-- A value read with more bytes in front of it. -/
theorem beNat_from (l : List Byte) (acc : Nat) :
    l.foldl (fun a b => a * 256 + b.toNat) acc = acc * 256 ^ l.length + beNat l := by
  induction l generalizing acc with
  | nil => simp [beNat]
  | cons b bs ih =>
    have h : beNat (b :: bs) = b.toNat * 256 ^ bs.length + beNat bs := by
      show (b :: bs).foldl _ 0 = _
      rw [List.foldl_cons, ih]; simp
    rw [List.foldl_cons, ih, h, List.length_cons, Nat.pow_succ, Nat.add_mul, Nat.mul_assoc, Nat.mul_comm 256]
    omega

theorem beNat_cons (b : Byte) (bs : List Byte) : beNat (b :: bs) = b.toNat * 256 ^ bs.length + beNat bs := by
  show (b :: bs).foldl _ 0 = _
  rw [List.foldl_cons, beNat_from]; simp

/-- Every field of n bytes holds less than 256 to the n. -/
theorem beNat_lt (l : List Byte) : beNat l < 256 ^ l.length := by
  induction l with
  | nil => simp [beNat]
  | cons b bs ih =>
    rw [beNat_cons, List.length_cons, Nat.pow_succ]
    have hb : b.toNat < 256 := b.isLt
    have : (b.toNat + 1) * 256 ^ bs.length ≤ 256 * 256 ^ bs.length := Nat.mul_le_mul_right _ hb
    rw [Nat.add_mul] at this
    rw [Nat.mul_comm (256 ^ bs.length)]
    omega

/-- The bytes of a value read back modulo the range of the field. -/
theorem beNat_beU_mod (n x : Nat) : beNat (beU n x) = x % 256 ^ n := by
  induction n with
  | zero => simp [beU, beNat, Nat.mod_one]
  | succ n ih =>
    rw [beU, beNat_cons, ih, length_beU, Nat.pow_succ, Nat.mod_mul]
    simp only [BitVec.toNat_ofNat]
    rw [Nat.mul_comm, Nat.add_comm]

/-- A value inside the range of its field reads back as itself. -/
theorem beNat_beU (n x : Nat) (h : x < 256 ^ n) : beNat (beU n x) = x := by
  rw [beNat_beU_mod, Nat.mod_eq_of_lt h]

/-- A signed value inside the range of its field reads back as itself. -/
theorem signedOf_beS (n : Nat) (x : Int) (h0 : -((256 ^ n : Nat) : Int) ≤ 2 * x) (h1 : 2 * x < ((256 ^ n : Nat) : Int)) :
    signedOf n (beNat (beS n x)) = x := by
  have hp : (0 : Int) < ((256 ^ n : Nat) : Int) := by exact_mod_cast Nat.pow_pos (by decide)
  have hm : (x % ((256 ^ n : Nat) : Int)).toNat < 256 ^ n := by
    have := Int.emod_lt_of_pos x hp
    have h2 := Int.emod_nonneg x (ne_of_gt hp)
    omega
  rw [beS, beNat_beU n _ hm, signedOf]
  rcases lt_or_ge x 0 with hx | hx
  · have hy : x % ((256 ^ n : Nat) : Int) = x + ((256 ^ n : Nat) : Int) := by
      rw [← Int.add_emod_right, Int.emod_eq_of_lt] <;> omega
    rw [hy]; split <;> omega
  · have hy : x % ((256 ^ n : Nat) : Int) = x := Int.emod_eq_of_lt hx (by omega)
    rw [hy]; split <;> omega

/-- The field that stands after some bytes. -/
theorem fieldAt_append (a b c : List Byte) : fieldAt (a ++ (b ++ c)) a.length b.length = b := by
  simp [fieldAt]

/-- A field further on does not look at the bytes in front. -/
theorem fieldAt_skip (a b : List Byte) (k n : Nat) : fieldAt (a ++ b) (a.length + k) n = fieldAt b k n := by
  simp [fieldAt, List.drop_append, List.drop_eq_nil_of_le]

end Sys2Proof.Machine
end

