-- ==== Sys2Proof/Laws/Frame.lean ====
section
/-!
SUPPORT. What every shared operation leaves alone: State.kept (the station mode, the clock, the configuration, the
patterns, the zones, the mask, the port, the queue and the host's fields of every record). One simp lemma per operation.
-/

namespace Sys2Proof.Machine

variable (s : State)

/-! ## Named updates -/

@[simp] theorem kept_withDue (x) : (s.withDue x).kept = s.kept := rfl
@[simp] theorem kept_withSlots (x) : (s.withSlots x).kept = s.kept := rfl
@[simp] theorem kept_withJob (x) : (s.withJob x).kept = s.kept := rfl
@[simp] theorem kept_withPreempt (x) : (s.withPreempt x).kept = s.kept := rfl
@[simp] theorem kept_withDrive (x) : (s.withDrive x).kept = s.kept := rfl
@[simp] theorem kept_withOrient (x) : (s.withOrient x).kept = s.kept := rfl
@[simp] theorem kept_withFlags (x) : (s.withFlags x).kept = s.kept := rfl
@[simp] theorem kept_sendAxis (x) : (s.sendAxis x).kept = s.kept := rfl

/-- A change of the records that keeps the host's fields of each. -/
theorem kept_map (f : TargetRecord → TargetRecord) (h : ∀ r, (f r).host = r.host) :
    (s.withRecords (s.records.map f)).kept = s.kept := by
  have : (s.records.map f).map TargetRecord.host = s.records.map TargetRecord.host := by
    rw [List.map_map]; exact List.map_congr_left fun r _ => h r
  simp [State.kept, State.withRecords, this]

/-- A change of one record that keeps its host's fields. -/
theorem kept_modify (id : Nat) (f : TargetRecord → TargetRecord) (h : ∀ r, (f r).host = r.host) :
    (s.modify id f).kept = s.kept := by
  have : ∀ r : TargetRecord, (if r.id = id then f r else r).host = r.host := by
    intro r; split
    · exact h r
    · rfl
  exact kept_map s _ this

/-- Folding an operation that keeps. -/
theorem kept_foldl (f : State → Nat → State) (h : ∀ s id, (f s id).kept = s.kept) (l : List Nat) :
    ∀ s : State, (l.foldl f s).kept = s.kept := by
  induction l with
  | nil => intro s; rfl
  | cons x xs ih => intro s; rw [List.foldl_cons, ih, h]

/-! ## Flags -/

@[simp] theorem kept_setNews (id) : (s.setNews id).kept = s.kept := by
  unfold State.setNews; split
  · exact kept_modify s id _ fun _ => rfl
  · rfl

@[simp] theorem kept_setNewsIf (b id) : (s.setNewsIf b id).kept = s.kept := by
  unfold State.setNewsIf; split <;> simp

/-! ## Entries, sensor and drive -/

@[simp] theorem kept_becomeDue (id reason level given) : (s.becomeDue id reason level given).kept = s.kept := by
  unfold State.becomeDue; split
  · rfl
  · rw [kept_withDue]; exact kept_modify s id _ fun _ => rfl

@[simp] theorem kept_moveEntry (id reason level given joined) :
    (s.moveEntry id reason level given joined).kept = s.kept := by
  unfold State.moveEntry; split
  · rfl
  · rw [kept_withDue]; exact kept_modify s id _ fun _ => rfl

@[simp] theorem kept_sensorSwitchOn : s.sensorSwitchOn.kept = s.kept := by unfold State.sensorSwitchOn; split <;> rfl
@[simp] theorem kept_sensorSwitchOff : s.sensorSwitchOff.kept = s.kept := by unfold State.sensorSwitchOff; split <;> rfl
@[simp] theorem kept_moveBoth (d) : (s.moveBoth d).kept = s.kept := rfl
@[simp] theorem kept_energize : s.energize.kept = s.kept := rfl
@[simp] theorem kept_slewTo (d n) : (s.slewTo d n).kept = s.kept := rfl
@[simp] theorem kept_requestMove (d n) : (s.requestMove d n).kept = s.kept := by
  unfold State.requestMove; split <;> (try split) <;> rfl
@[simp] theorem kept_parkSlew : s.parkSlew.kept = s.kept := rfl
@[simp] theorem kept_parkIfPending : s.parkIfPending.kept = s.kept := by unfold State.parkIfPending; split <;> rfl
@[simp] theorem kept_restDrive : s.restDrive.kept = s.kept := rfl
@[simp] theorem kept_stopRequest : s.stopRequest.kept = s.kept := by unfold State.stopRequest; split <;> simp
@[simp] theorem kept_steeringBegins : s.steeringBegins.kept = s.kept := by unfold State.steeringBegins; split <;> rfl
@[simp] theorem kept_steeringEnds : s.steeringEnds.kept = s.kept := by unfold State.steeringEnds; split <;> rfl
@[simp] theorem kept_settleDoze : s.settleDoze.kept = s.kept := by
  unfold State.settleDoze; split <;> (try split) <;> (try split) <;> rfl

/-! ## Outcomes and ends -/

@[simp] theorem kept_writeLastEnd (id e) : (s.writeLastEnd id e).kept = s.kept := kept_modify s id _ fun _ => rfl
@[simp] theorem kept_applyFound (c id f) : (s.applyFound c id f).kept = s.kept := by
  have h : (s.modify id fun r => r.confirmedBy c.aim f).kept = s.kept := kept_modify s id _ fun _ => rfl
  unfold State.applyFound
  split
  · rfl
  · split <;> simp [h]
@[simp] theorem kept_becomeLost (id) : (s.becomeLost id).kept = s.kept := kept_modify s id _ fun _ => rfl
@[simp] theorem kept_applyAmbiguous (id) : (s.applyAmbiguous id).kept = s.kept := by
  have h : (s.modify id fun r => r.missed.withFlags fun f => { f with ambiguous := true }).kept = s.kept :=
    kept_modify s id _ fun _ => rfl
  have w : ∀ t : State, (t.modify id TargetRecord.enterWaiting).kept = t.kept := fun t => kept_modify t id _ fun _ => rfl
  unfold State.applyAmbiguous
  split
  · rfl
  · split <;> simp [h, w]
@[simp] theorem kept_applyNotFound (id) : (s.applyNotFound id).kept = s.kept := by
  have h : (s.modify id TargetRecord.missed).kept = s.kept := kept_modify s id _ fun _ => rfl
  unfold State.applyNotFound; split <;> simp [h]
@[simp] theorem kept_rejoin (id reason) : (s.rejoin id reason).kept = s.kept := by
  unfold State.rejoin; split <;> simp
@[simp] theorem kept_applyOutcome (c e) : (s.applyOutcome c e).kept = s.kept := by
  have h : ∀ (t : State) id, (t.modify id fun r => { r with state := .held, countdown := none }).kept = t.kept :=
    fun t id => kept_modify t id _ fun _ => rfl
  unfold State.applyOutcome
  split
  · rfl
  · cases e <;> simp [h] <;> split <;> simp
@[simp] theorem kept_axesAtEnd (e) : (s.axesAtEnd e).kept = s.kept := by cases e <;> simp [State.axesAtEnd]
@[simp] theorem kept_handToTally (c) : (s.handToTally c).kept = s.kept := by
  unfold State.handToTally; split <;> (try split) <;> (try split) <;> rfl
@[simp] theorem kept_endJob (e) : (s.endJob e).kept = s.kept := by
  unfold State.endJob; split
  · rfl
  · cases e <;> simp
@[simp] theorem kept_enterOrient (st) : (s.enterOrient st).kept = s.kept := rfl
@[simp] theorem kept_returnEntry (id) : (s.returnEntry id).kept = s.kept := by unfold State.returnEntry; split <;> simp
@[simp] theorem kept_returnReorient : s.returnReorient.kept = s.kept := kept_foldl _ kept_returnEntry _ s
@[simp] theorem kept_leaveBehind : s.leaveBehind.kept = s.kept := rfl
@[simp] theorem kept_returnLeftOver (o) : (s.returnLeftOver o).kept = s.kept := by
  unfold State.returnLeftOver; split <;> simp
@[simp] theorem kept_returnAfter (o) : (s.returnAfter o).kept = s.kept := by unfold State.returnAfter; split <;> simp
@[simp] theorem kept_judgeTally : s.judgeTally.kept = s.kept := by
  unfold State.judgeTally; simp only [kept_withFlags]
  split
  · split
    · simp
    · rw [kept_foldl _ kept_setNews]; simp
  · simp
@[simp] theorem kept_testReorient : s.testReorient.kept = s.kept := by unfold State.testReorient; split <;> simp
@[simp] theorem kept_finishJob (e) : (s.finishJob e).kept = s.kept := by
  unfold State.finishJob; split
  · rfl
  · split <;> simp
@[simp] theorem kept_emptySlot (e k) : (s.emptySlot e k).kept = s.kept := by unfold State.emptySlot; split <;> simp
@[simp] theorem kept_haltAll (e) : (s.haltAll e).kept = s.kept := by simp [State.haltAll]

/-! ## Search -/

@[simp] theorem kept_placeProbe (c r) : (s.placeProbe c r).kept = s.kept := by cases r <;> simp [State.placeProbe]
@[simp] theorem kept_nextProbe (c) : (s.nextProbe c).kept = s.kept := by unfold State.nextProbe; split <;> simp
@[simp] theorem kept_enterSearch (c d) : (s.enterSearch c d).kept = s.kept := by simp [State.enterSearch]

/-! ## The arbiter -/

@[simp] theorem kept_markDeferrals : s.markDeferrals.kept = s.kept := by
  unfold State.markDeferrals
  exact kept_map (s.withDue _) _ fun r => by unfold TargetRecord.followEntry; split <;> rfl
@[simp] theorem kept_wakeOrSlew (c) : (s.wakeOrSlew c).kept = s.kept := by simp [State.wakeOrSlew]
@[simp] theorem kept_activate (t) : (s.activate t).kept = s.kept := by
  unfold State.activate; split
  · rfl
  · exact kept_modify s _ _ fun _ => rfl
@[simp] theorem kept_startEntry (e) : (s.startEntry e).kept = s.kept := by unfold State.startEntry; split <;> simp
@[simp] theorem kept_resumeSearch (c) : (s.resumeSearch c).kept = s.kept := by
  unfold State.resumeSearch; split <;> (try split) <;> simp
@[simp] theorem kept_resumeJob (c) : (s.resumeJob c).kept = s.kept := by
  unfold State.resumeJob; simp only; split <;> (try split) <;> simp
@[simp] theorem kept_resumeSlot (k) : (s.resumeSlot k).kept = s.kept := by unfold State.resumeSlot; split <;> simp
@[simp] theorem kept_idle : s.idle.kept = s.kept := kept_sensorSwitchOff s
@[simp] theorem kept_decideWithin (fuel) : ∀ s : State, (State.decideWithin fuel s).kept = s.kept := by
  induction fuel with
  | zero => intro s; exact kept_idle s
  | succ n ih =>
    intro s
    unfold State.decideWithin
    split
    · simp
    · simp only
      split
      · simp
      · simp
      · split <;> simp [ih]
@[simp] theorem kept_startDecision : s.startDecision.kept = s.kept := kept_decideWithin 4 s
@[simp] theorem kept_decideIfIdle : s.decideIfIdle.kept = s.kept := by unfold State.decideIfIdle; split <;> simp
@[simp] theorem kept_deactivate (t) : (s.deactivate t).kept = s.kept := by
  unfold State.deactivate; split
  · rfl
  · exact kept_modify s _ _ fun _ => rfl
@[simp] theorem kept_suspendJob (c) : (s.suspendJob c).kept = s.kept := by simp [State.suspendJob]
@[simp] theorem kept_giveWay (c) : (s.giveWay c).kept = s.kept := by unfold State.giveWay; split <;> simp
@[simp] theorem kept_preemptionTest : s.preemptionTest.kept = s.kept := by
  unfold State.preemptionTest; split <;> (try split) <;> (try split) <;> simp
@[simp] theorem kept_arbitrate : s.arbitrate.kept = s.kept := by unfold State.arbitrate; split <;> simp
@[simp] theorem kept_takeUpMark : s.takeUpMark.kept = s.kept := by
  unfold State.takeUpMark; split <;> (try split) <;> simp

/-! ## Tracks and visits -/

@[simp] theorem kept_steer (c d) : (s.steer c d).kept = s.kept := rfl
@[simp] theorem kept_enterTrack (c d q) : (s.enterTrack c d q).kept = s.kept := by
  unfold State.enterTrack; split
  · rfl
  · have h : ∀ id, (s.modify id fun r => r.acquired d q s.clock).kept = s.kept := fun id => kept_modify s id _ fun _ => rfl
    simp [h]
@[simp] theorem kept_coastExpires (c) : (s.coastExpires c).kept = s.kept := by simp [State.coastExpires]
@[simp] theorem kept_enterCoast (c) : (s.enterCoast c).kept = s.kept := by
  unfold State.enterCoast; split
  · rfl
  · simp only; split <;> simp
@[simp] theorem kept_runReached (c) : (s.runReached c).kept = s.kept := by
  unfold State.runReached; split <;> (try split) <;> simp
@[simp] theorem kept_coastVerdict (c v) : (s.coastVerdict c v).kept = s.kept := by cases v <;> simp [State.coastVerdict]
@[simp] theorem kept_coastFrame (c v) : (s.coastFrame c v).kept = s.kept := by simp [State.coastFrame]
@[simp] theorem kept_trackMatched (c d q) : (s.trackMatched c d q).kept = s.kept := by
  unfold State.trackMatched; split
  · rfl
  · have h : ∀ id, (s.modify id fun r => r.tracked d q s.clock (trackRate c.previous d s.clock)).kept = s.kept :=
      fun id => kept_modify s id _ fun _ => rfl
    simp [h]
@[simp] theorem kept_trackMissed (c) : (s.trackMissed c).kept = s.kept := by
  unfold State.trackMissed; simp only; split <;> simp
@[simp] theorem kept_trackVerdict (c v) : (s.trackVerdict c v).kept = s.kept := by cases v <;> simp [State.trackVerdict]
@[simp] theorem kept_coastOnFrame (c v) : (s.coastOnFrame c v).kept = s.kept := by
  unfold State.coastOnFrame; split <;> simp
@[simp] theorem kept_trackFrame (c v) : (s.trackFrame c v).kept = s.kept := by
  unfold State.trackFrame; split <;> (try split) <;> simp
@[simp] theorem kept_visitFound (c f) : (s.visitFound c f).kept = s.kept := by
  unfold State.visitFound; simp only; split <;> simp
@[simp] theorem kept_foreignFound (c d) : (s.foreignFound c d).kept = s.kept := by simp [State.foreignFound]
@[simp] theorem kept_evaluate (c d q) : (s.evaluate c d q).kept = s.kept := by
  unfold State.evaluate; split <;> (try split) <;> simp
@[simp] theorem kept_confirmReached (c) : (s.confirmReached c).kept = s.kept := by
  unfold State.confirmReached; split <;> (try split) <;> simp
@[simp] theorem kept_enterConfirm (c o d q) : (s.enterConfirm c o d q).kept = s.kept := by simp [State.enterConfirm]
@[simp] theorem kept_lookTest (c) : (s.lookTest c).kept = s.kept := by
  unfold State.lookTest; split <;> (try split) <;> simp
@[simp] theorem kept_lookVerdict (c v) : (s.lookVerdict c v).kept = s.kept := by cases v <;> simp [State.lookVerdict]
@[simp] theorem kept_probeCounted (c st) : (s.probeCounted c st).kept = s.kept := by
  unfold State.probeCounted; simp only; split <;> simp
@[simp] theorem kept_probeVerdict (c v) : (s.probeVerdict c v).kept = s.kept := by
  unfold State.probeVerdict; split
  · rfl
  · cases v <;> simp only <;> (try split) <;> simp
@[simp] theorem kept_searchBroken (c) : (s.searchBroken c).kept = s.kept := by
  unfold State.searchBroken; split <;> simp
@[simp] theorem kept_confirmVerdict (c v) : (s.confirmVerdict c v).kept = s.kept := by
  unfold State.confirmVerdict; split <;> (try split) <;> simp
@[simp] theorem kept_actOnVerdict (c v) : (s.actOnVerdict c v).kept = s.kept := by
  unfold State.actOnVerdict; split <;> simp
@[simp] theorem kept_followUp : s.followUp.kept = s.kept := by unfold State.followUp; split <;> simp
@[simp] theorem kept_frameArrives (f) : (s.frameArrives f).kept = s.kept := by
  have h : ({ s with lastFrame := some f.number } : State).kept = s.kept := rfl
  unfold State.frameArrives; split <;> (try split) <;> (try split) <;> simp [h]

/-! ## Drives and level -/

@[simp] theorem kept_wakeEnds : s.wakeEnds.kept = s.kept := by
  unfold State.wakeEnds; split <;> (try split) <;> (try split) <;> simp
@[simp] theorem kept_arrived : s.arrived.kept = s.kept := by
  unfold State.arrived; split <;> (try split) <;> (try split) <;> (try split) <;> simp
@[simp] theorem kept_slewEnds (p) : (s.slewEnds p).kept = s.kept := by cases p <;> simp [State.slewEnds]
@[simp] theorem kept_driveFaults (c a) : (s.driveFaults c a).kept = s.kept := by simp [State.driveFaults]
@[simp] theorem kept_faultReported (c a) : (s.faultReported c a).kept = s.kept := by
  unfold State.faultReported; split <;> simp
@[simp] theorem kept_resetDrive : s.resetDrive.kept = s.kept := by simp [State.resetDrive]
@[simp] theorem kept_makeReorient (id) : (s.makeReorient id).kept = s.kept := by
  unfold State.makeReorient; split <;> (try split) <;> simp
@[simp] theorem kept_startReorientation : s.startReorientation.kept = s.kept := by
  unfold State.startReorientation; simp only [kept_withOrient]; rw [kept_foldl _ kept_makeReorient]; simp
@[simp] theorem kept_disturb : s.disturb.kept = s.kept := by simp [State.disturb]
@[simp] theorem kept_settleStation : s.settleStation.kept = s.kept := by
  unfold State.settleStation; split <;> simp
@[simp] theorem kept_sampleDisturbed (b) : (s.sampleDisturbed b).kept = s.kept := by
  unfold State.sampleDisturbed; split <;> (try split) <;> simp
@[simp] theorem kept_sampleSteady (b) : (s.sampleSteady b).kept = s.kept := by
  unfold State.sampleSteady; split <;> (try split) <;> simp
@[simp] theorem kept_enterOrientedWith (x) : (s.enterOrientedWith x).kept = s.kept := by
  unfold State.enterOrientedWith; simp only [kept_withOrient]; split <;> split <;> simp
@[simp] theorem kept_setOrientation (x) : (s.setOrientation x).kept = s.kept := by
  unfold State.setOrientation; split <;> simp

/-! ## Records, zones, points and timers -/

@[simp] theorem kept_dropSuspended (id e) : (s.dropSuspended id e).kept = s.kept := by
  unfold State.dropSuspended; split <;> simp
@[simp] theorem kept_supersede (id) : (s.supersede id).kept = s.kept := by unfold State.supersede; split <;> simp
@[simp] theorem kept_relevelEntry (id l) : (s.relevelEntry id l).kept = s.kept := by
  unfold State.relevelEntry; split <;> (try split) <;> simp
@[simp] theorem kept_afterReorientWork (b) : (s.afterReorientWork b).kept = s.kept := by
  unfold State.afterReorientWork; split
  · simp only; split <;> simp
  · rfl
@[simp] theorem kept_holdIdle (id) : (s.holdIdle id).kept = s.kept := by
  unfold State.holdIdle; rw [kept_withDue]; exact kept_modify s id _ fun _ => rfl
@[simp] theorem kept_holdRecord (id st) : (s.holdRecord id st).kept = s.kept := by cases st <;> simp [State.holdRecord]
@[simp] theorem kept_clearNews (ids) : (s.clearNews ids).kept = s.kept :=
  kept_map s _ fun r => by split <;> rfl
@[simp] theorem kept_visitDue (id l g) : (s.visitDue id l g).kept = s.kept := by
  unfold State.visitDue; split
  · rfl
  · simp only; split <;> simp
@[simp] theorem kept_wakeWaitingSearch : s.wakeWaitingSearch.kept = s.kept := by
  unfold State.wakeWaitingSearch; split <;> (try split) <;> (try split) <;> simp
@[simp] theorem kept_shadowJob : s.shadowJob.kept = s.kept := by simp [State.shadowJob]

@[simp] theorem kept_testShadowMark : s.testShadowMark.kept = s.kept := by
  unfold State.testShadowMark; split
  · rfl
  · split <;> rfl
@[simp] theorem kept_testAgainstZone (z) : (s.testAgainstZone z).kept = s.kept := by
  have shadowed : ∀ c : JobContext, (if z.contains c.aim then s.shadowJob else s).kept = s.kept := by
    intro c; split
    · exact kept_shadowJob s
    · rfl
  unfold State.testAgainstZone; split
  · rfl
  · split
    · rfl
    · exact shadowed _
    · exact shadowed _
    · exact shadowed _
    · exact shadowed _
    · rfl
    · rfl
    · rfl
    · split
      · rw [kept_decideIfIdle, kept_enterCoast]
      · rfl
    · rfl
    · rfl

@[simp] theorem kept_zoneGone : s.zoneGone.kept = s.kept := by simp [State.zoneGone]
@[simp] theorem kept_replacePoint : s.replacePoint.kept = s.kept := by
  unfold State.replacePoint; simp only [kept_withSlots, kept_withDue]; split <;> simp
@[simp] theorem kept_joinPoint (d l h) : (s.joinPoint d l h).kept = s.kept := by simp [State.joinPoint]
@[simp] theorem kept_endDwell : s.endDwell.kept = s.kept := by simp [State.endDwell]
@[simp] theorem kept_setOverdue (id) : (s.setOverdue id).kept = s.kept := by
  unfold State.setOverdue; simp only [kept_withFlags, kept_setNews]; exact kept_modify s id _ fun _ => rfl
@[simp] theorem kept_dropDeferTimer (id) : (s.dropDeferTimer id).kept = s.kept := rfl
@[simp] theorem kept_searchLimitExpires (c st) : (s.searchLimitExpires c st).kept = s.kept := by
  unfold State.searchLimitExpires; split <;> simp
@[simp] theorem kept_quantumExpires (c) : (s.quantumExpires c).kept = s.kept := by
  unfold State.quantumExpires; split <;> simp

end Sys2Proof.Machine
end

