-- ==== Sys2Proof/Laws/Port.lean ====
section
/-!
SUPPORT. The Request Port (R184 to R186): what taking a request, refusing it and publishing its reply come to, and the kinds of
a transaction.
-/

namespace Sys2Proof.Machine

/-- With no request in hand a request is taken: its owner acts, and the port holds its reply. -/
theorem takeRequest_idle (s : State) (tag : Byte) (act : State → Answer) (h : s.port.inHand = none) :
    s.takeRequest tag act = (act s).1.answered tag (act s).2.1 (act s).2.2 := by
  simp [State.takeRequest, h, State.answered, Port.taking]

/-- With a request in hand a request is discarded. -/
theorem takeRequest_busy (s : State) (tag : Byte) (act : State → Answer) (h : s.port.inHand ≠ none) :
    s.takeRequest tag act = s := by
  cases hp : s.port.inHand with
  | none => exact absurd hp h
  | some r => simp [State.takeRequest, hp]

/-- The row of a request is its taking. -/
theorem exec_request (i : Instr) (tag : Byte) (act : State → Answer) (s : State) (h : requestAct i = some (tag, act)) :
    exec i s = .next (s.takeRequest tag act) := by
  cases i <;> simp_all [requestAct] <;> (obtain ⟨rfl, rfl⟩ := h; rfl)

/-- A refused request leaves the state to the port alone. -/
@[simp] theorem refuse_eq (s : State) (status : Status) : s.refuse status = (s, status, []) := rfl

@[simp] theorem accept_eq (s : State) (body : List Byte) : s.accept body = (s, .ok, body) := rfl

/-- A reply in hand becomes the last reply, its read mark clear. -/
theorem publish_busy (s : State) (r : Reply) (h : s.port.inHand = some r) :
    s.publish = { s with port := ⟨none, some r, false⟩ } := by
  simp [State.publish, h]

theorem publish_idle (s : State) (h : s.port.inHand = none) : s.publish = s := by simp [State.publish, h]

/-- After publishing no request is in hand. -/
@[simp] theorem inHand_publish (s : State) : s.publish.port.inHand = none := by
  cases h : s.port.inHand with
  | none => rw [publish_idle s h, h]
  | some r => rw [publish_busy s r h]

/-! ## Transactions (FIGURE 97) -/

/-- 0xA1 selects a WRITE. -/
@[simp] theorem transact_write (s : State) (frame : List Byte) (n : Nat) (published : Bool) :
    s.transact 0xA1 frame n published = s.writeTransaction frame published := rfl

/-- 0xA2 selects a READ. -/
@[simp] theorem transact_read (s : State) (frame : List Byte) (n : Nat) (published : Bool) :
    s.transact 0xA2 frame n published = s.readTransaction n := rfl

/-- Any other first byte selects a POLL. -/
theorem transact_poll (s : State) (first : Byte) (frame : List Byte) (n : Nat) (published : Bool)
    (h1 : first ≠ 0xA1) (h2 : first ≠ 0xA2) : s.transact first frame n published = s.pollTransaction := by
  unfold State.transact transactionKind
  rw [if_neg h1, if_neg h2]

end Sys2Proof.Machine
end

