-- ==== Sys2Proof/Laws/Sends.lean ====
section
/-!
SUPPORT. What the drive operations send on the Axis Link (R158, FIGURE 83): the move numbers run on from those the drive
holds, and the V axis is sent nowhere outside its limits. Sends chains the operations of one event.
-/

namespace Sys2Proof.Machine

open Config

/-- From s to t the part has sent commands whose move numbers run from those of s to those of t, all inside the V limits. -/
abbrev Sends (s t : State) : Prop :=
  ∃ sent, t.axisOut = s.axisOut ++ sent
    ∧ movesRun (s.drive.moveHz, s.drive.moveV) sent = some (t.drive.moveHz, t.drive.moveV)
    ∧ ∀ x ∈ sent, x.insideLimits = true

/-- A run of move numbers in two pieces. -/
theorem movesRun_append (l m : List AxisCommand) (p : Byte × Byte) :
    movesRun p (l ++ m) = (movesRun p l).bind fun q => movesRun q m := by
  induction l generalizing p with
  | nil => rfl
  | cons x xs ih =>
    cases x with
    | moveTo a d n =>
      cases a <;> simp only [List.cons_append, movesRun] <;> split <;> simp [ih]
    | energize a => simp only [List.cons_append, movesRun, ih]
    | rest a => simp only [List.cons_append, movesRun, ih]
    | stop a => simp only [List.cons_append, movesRun, ih]

/-- An operation that sends nothing and keeps the move numbers. -/
theorem sends_quiet {s t : State} (h1 : t.axisOut = s.axisOut) (h2 : t.drive.moveHz = s.drive.moveHz)
    (h3 : t.drive.moveV = s.drive.moveV) : Sends s t :=
  ⟨[], by simp [h1], by simp [movesRun, h2, h3], by simp⟩

theorem sends_refl (s : State) : Sends s s := sends_quiet rfl rfl rfl

theorem sends_trans {s t u : State} (h1 : Sends s t) (h2 : Sends t u) : Sends s u := by
  obtain ⟨a, ha, hb, hc⟩ := h1
  obtain ⟨x, hx, hy, hz⟩ := h2
  refine ⟨a ++ x, by rw [hx, ha, List.append_assoc], by rw [movesRun_append, hb]; exact hy, fun y hy' => ?_⟩
  rcases List.mem_append.1 hy' with h | h
  · exact hc y h
  · exact hz y h

/-- MOVE TO both axes, for a target inside the V limits. -/
theorem sends_moveBoth (s : State) (d : Dir) (h : vInLimits d.v = true) : Sends s (s.moveBoth d) :=
  ⟨_, rfl, by simp [movesRun, State.moveBoth, State.sendAxis, State.withDrive], by simp [AxisCommand.insideLimits, h]⟩

theorem sends_slewTo (s : State) (d : Dir) (limit : Nat) (h : vInLimits d.v = true) : Sends s (s.slewTo d limit) :=
  sends_trans (sends_quiet rfl rfl rfl) (sends_moveBoth _ d h)

theorem sends_energize (s : State) : Sends s s.energize := ⟨_, rfl, rfl, by simp [AxisCommand.insideLimits]⟩

/-- A move that a job asks for keeps the limits whatever its target (R158). -/
theorem sends_requestMove (s : State) (d : Dir) (limit : Nat) : Sends s (s.requestMove d limit) := by
  unfold State.requestMove
  split
  · exact sends_energize s
  · exact sends_refl s
  · split
    · exact sends_slewTo s d limit ‹_›
    · exact sends_refl s
  · split
    · exact sends_slewTo s d limit ‹_›
    · exact sends_refl s
  · exact sends_refl s
  · exact sends_refl s

theorem sends_parkSlew (s : State) : Sends s s.parkSlew :=
  ⟨_, rfl, by simp [movesRun, State.parkSlew, State.sendAxis, State.withDrive], by
    simp [AxisCommand.insideLimits, vInLimits, vLow, vHigh]⟩

theorem sends_parkIfPending (s : State) : Sends s s.parkIfPending := by
  unfold State.parkIfPending
  split
  · exact sends_parkSlew s
  · exact sends_refl s

theorem sends_restDrive (s : State) : Sends s s.restDrive := ⟨_, rfl, rfl, by simp [AxisCommand.insideLimits]⟩

theorem sends_stopRequest (s : State) : Sends s s.stopRequest := by
  have h : Sends s ((s.withDrive s.drive.toReady).sendAxis [.stop .hz, .stop .v]) :=
    ⟨_, rfl, rfl, by simp [AxisCommand.insideLimits]⟩
  unfold State.stopRequest
  split
  · exact sends_trans h (sends_parkIfPending _)
  · exact sends_trans h (sends_parkIfPending _)
  · exact sends_refl s
  · exact sends_refl s
  · exact sends_refl s
  · exact sends_refl s

/-- What a stop request sends and leaves of the drive (FIGURE 87), said once: a proof about an end of a job cites this. -/
theorem stopsAxes_stopRequest (s : State) : stopsAxes s s.stopRequest := by
  unfold stopsAxes State.stopRequest
  cases h : s.drive.state <;> cases hp : s.drive.parkPending <;>
    simp [State.parkIfPending, State.parkSlew, State.withDrive, State.sendAxis, Drive.toReady, hp]

/-- Two states with one drive, one list of sent commands and one MOVE_LIMIT answer a stop request alike. -/
theorem stopsAxes_congr {s s' t t' : State} (h : stopsAxes s t) (hd : s'.drive = s.drive) (ha : s'.axisOut = s.axisOut)
    (hm : s'.params.moveLimit = s.params.moveLimit) (td : t'.drive = t.drive) (ta : t'.axisOut = t.axisOut) :
    stopsAxes s' t' := by
  unfold stopsAxes
  rw [hd, ha, hm, td, ta]
  exact h

theorem sends_steeringBegins (s : State) : Sends s s.steeringBegins := by
  unfold State.steeringBegins
  split <;> exact sends_quiet rfl rfl rfl

theorem sends_steeringEnds (s : State) : Sends s s.steeringEnds := by
  unfold State.steeringEnds
  split <;> exact sends_quiet rfl rfl rfl

theorem sends_sensorSwitchOn (s : State) : Sends s s.sensorSwitchOn := by
  unfold State.sensorSwitchOn
  split <;> exact sends_quiet rfl rfl rfl

theorem sends_sensorSwitchOff (s : State) : Sends s s.sensorSwitchOff := by
  unfold State.sensorSwitchOff
  split <;> exact sends_quiet rfl rfl rfl

theorem sends_settleDoze (s : State) : Sends s s.settleDoze := by
  unfold State.settleDoze
  split
  · split
    · exact sends_refl s
    · split
      · exact sends_restDrive s
      · exact sends_quiet rfl rfl rfl
  · exact sends_quiet rfl rfl rfl

theorem sends_becomeDue (s : State) (id reason level given) : Sends s (s.becomeDue id reason level given) := by
  unfold State.becomeDue
  split <;> exact sends_quiet rfl rfl rfl

theorem sends_moveEntry (s : State) (id reason level given joined) :
    Sends s (s.moveEntry id reason level given joined) := by
  unfold State.moveEntry
  split <;> exact sends_quiet rfl rfl rfl

end Sys2Proof.Machine
end

