-- ==== Sys2Proof/Laws/Tables.lean ====
section
/-!
SUPPORT. The tables: finding what was written, and what joining and leaving a list does to its members and its order.
-/

namespace Sys2Proof.Machine

/-! ## The Target Table -/

/-- What TARGET CHANGE writes is what its statements spell (R14 to R17). -/
theorem writeTo_eq (f : TargetFields) (absent : Bool) (x : TargetRecord) :
    TargetFields.writeTo f absent x = changedRecord absent f x := by
  unfold TargetFields.writeTo changedRecord
  cases x.fields <;> cases hi : f.interval <;>
    simp only [TargetFields.overClass, TargetFields.overCountdown, hi] <;> rfl

/-- The checks of TARGET CHANGE are what its statements spell (R13). -/
theorem changeOk_iff (cls : Option Nat) (absent : Bool) (f : TargetFields) (r : TargetRecord) :
    changeOk cls absent f r ↔ TargetFields.changeAllowed f cls r = true ∧ ¬ (absent = true ∧ f.band.isSome = true) := by
  simp only [changeOk, TargetFields.changeAllowed, gateCovers, Bool.and_eq_true, Option.isNone_iff_eq_none,
    Bool.not_eq_true', decide_eq_true_eq]
  tauto

/-- The record found carries the id. -/
theorem find_id {s : State} {id : Nat} {r : TargetRecord} (h : s.find id = some r) : r.id = id := by
  simpa using List.find?_some h

theorem find_mem {s : State} {id : Nat} {r : TargetRecord} (h : s.find id = some r) : r ∈ s.records :=
  List.mem_of_find?_eq_some h

/-- No record carries an id that is not found. -/
theorem find_none {s : State} {id : Nat} : s.find id = none ↔ ∀ r ∈ s.records, r.id ≠ id := by
  simp [State.find, List.find?_eq_none]

/-- A change that keeps the ids is found where the record was. -/
theorem find_modify_self (s : State) (id : Nat) (f : TargetRecord → TargetRecord) (h : ∀ r, (f r).id = r.id) :
    (s.modify id f).find id = (s.find id).map f := by
  simp only [State.find, State.modify]
  induction s.records with
  | nil => rfl
  | cons x xs ih =>
    by_cases hx : x.id = id
    · simp [hx, h]
    · simp [hx, ih]

/-- The other records are found as they were. -/
theorem find_modify_other (s : State) (id id' : Nat) (f : TargetRecord → TargetRecord) (h : ∀ r, (f r).id = r.id)
    (hn : id' ≠ id) : (s.modify id f).find id' = s.find id' := by
  simp only [State.find, State.modify]
  induction s.records with
  | nil => rfl
  | cons x xs ih =>
    by_cases hx : x.id = id
    · have : ¬ id = id' := fun e => hn e.symm
      simp [hx, h, this, ih]
    · simp [hx, List.find?_cons, ih]

/-- A change that keeps the ids keeps their list. -/
theorem ids_modify (s : State) (id : Nat) (f : TargetRecord → TargetRecord) (h : ∀ r, (f r).id = r.id) :
    (s.modify id f).records.map (·.id) = s.records.map (·.id) := by
  simp only [State.modify, List.map_map]
  refine List.map_congr_left fun r _ => ?_
  show (if r.id = id then f r else r).id = r.id
  split
  · exact h r
  · rfl

theorem insertRecord_perm (r : TargetRecord) (l : List TargetRecord) : (insertRecord r l).Perm (r :: l) := by
  induction l with
  | nil => exact .refl _
  | cons x xs ih =>
    rw [insertRecord]; split
    · exact .refl _
    · exact (ih.cons x).trans (.swap r x xs)

@[simp] theorem mem_insertRecord {r a : TargetRecord} {l : List TargetRecord} :
    a ∈ insertRecord r l ↔ a = r ∨ a ∈ l := by
  rw [(insertRecord_perm r l).mem_iff, List.mem_cons]

/-- A record in a free slot keeps the slot order. -/
theorem insertRecord_sorted {r : TargetRecord} {l : List TargetRecord} (h : (l.map (·.slot)).Pairwise (· < ·))
    (hf : ∀ x ∈ l, x.slot ≠ r.slot) : ((insertRecord r l).map (·.slot)).Pairwise (· < ·) := by
  rw [List.pairwise_map] at h ⊢
  induction l with
  | nil => simp [insertRecord]
  | cons x xs ih =>
    rw [List.pairwise_cons] at h
    rw [insertRecord]; split
    · rename_i hlt
      refine List.pairwise_cons.2 ⟨fun a ha => ?_, List.pairwise_cons.2 h⟩
      rcases List.mem_cons.1 ha with rfl | ha
      · exact hlt
      · exact hlt.trans (h.1 a ha)
    · rename_i hge
      have hx : x.slot < r.slot := lt_of_le_of_ne (not_lt.1 hge) (hf x List.mem_cons_self)
      refine List.pairwise_cons.2 ⟨fun a ha => ?_, ih h.2 fun y hy => hf y (List.mem_cons_of_mem _ hy)⟩
      rcases mem_insertRecord.1 ha with rfl | ha
      · exact hx
      · exact h.1 a ha

/-! ## The Due List -/

theorem dueInsert_perm (e : Entry) (l : List Entry) : (dueInsert e l).Perm (e :: l) := by
  induction l with
  | nil => exact .refl _
  | cons x xs ih =>
    rw [dueInsert]; split
    · exact .refl _
    · exact (ih.cons x).trans (.swap e x xs)

@[simp] theorem mem_dueInsert {e a : Entry} {l : List Entry} : a ∈ dueInsert e l ↔ a = e ∨ a ∈ l := by
  rw [(dueInsert_perm e l).mem_iff, List.mem_cons]

/-- Joining keeps the highest level first. -/
theorem dueInsert_sorted {e : Entry} {l : List Entry} (h : (l.map (·.level)).Pairwise (· ≥ ·)) :
    ((dueInsert e l).map (·.level)).Pairwise (· ≥ ·) := by
  rw [List.pairwise_map] at h ⊢
  induction l with
  | nil => simp [dueInsert]
  | cons x xs ih =>
    rw [List.pairwise_cons] at h
    rw [dueInsert]; split
    · rename_i hlt
      refine List.pairwise_cons.2 ⟨fun a ha => ?_, List.pairwise_cons.2 h⟩
      rcases List.mem_cons.1 ha with rfl | ha
      · exact le_of_lt hlt
      · exact le_trans (h.1 a ha) (le_of_lt hlt)
    · rename_i hge
      refine List.pairwise_cons.2 ⟨fun a ha => ?_, ih h.2⟩
      rcases mem_dueInsert.1 ha with rfl | ha
      · exact not_lt.1 hge
      · exact h.1 a ha

/-- An entry joins at the tail of its level, and the other levels stand (R47). -/
theorem level_dueInsert (e : Entry) (l : List Entry) (h : (l.map (·.level)).Pairwise (· ≥ ·)) (n : Nat) :
    (dueInsert e l).filter (fun x => x.level == n)
      = l.filter (fun x => x.level == n) ++ (if e.level = n then [e] else []) := by
  induction l with
  | nil => by_cases he : e.level = n <;> simp [dueInsert, he]
  | cons x xs ih =>
    have hx := List.pairwise_cons.1 (List.pairwise_map.1 h)
    have ih' := ih (List.pairwise_map.2 hx.2)
    rw [dueInsert]; split
    · rename_i hlt
      by_cases he : e.level = n
      · have : ∀ y ∈ x :: xs, (y.level == n) = false := by
          intro y hy
          rcases List.mem_cons.1 hy with rfl | hy
          · simp; omega
          · have := hx.1 y hy; simp; omega
        have hnil : (x :: xs).filter (fun y => y.level == n) = [] :=
          List.filter_eq_nil_iff.2 fun y hy => by simp [this y hy]
        rw [List.filter_cons, hnil]; simp [he]
      · simp [List.filter_cons, he]
    · by_cases hn : x.level = n <;> simp [hn, ih']

/-- Dropping the entry of a record leaves none of it. -/
theorem mem_dropEntry {id : Nat} {a : Entry} {l : List Entry} :
    a ∈ dropEntry id l ↔ a ∈ l ∧ a.work.target ≠ some id := by
  simp [dropEntry]

theorem dropEntry_sublist (id : Nat) (l : List Entry) : (dropEntry id l).Sublist l := List.filter_sublist

theorem entryOf_mem {s : State} {id : Nat} {e : Entry} (h : s.entryOf id = some e) :
    e ∈ s.due ∧ e.work.target = some id :=
  ⟨List.mem_of_find?_eq_some h, by simpa using List.find?_some h⟩

theorem entryOf_none {s : State} {id : Nat} : s.entryOf id = none ↔ ∀ e ∈ s.due, e.work.target ≠ some id := by
  simp [State.entryOf, List.find?_eq_none]

/-! ## The suspend slots -/

theorem get_set_self (x : Slots) (k : Nat) (c : Option JobContext) (h : k < 3) : (x.set k c).get k = c := by
  match k, h with
  | 0, _ => rfl
  | 1, _ => rfl
  | 2, _ => rfl

theorem get_set_other (x : Slots) (k j : Nat) (c : Option JobContext) (h : j ≠ k) : (x.set k c).get j = x.get j := by
  rcases k with _ | _ | _ | k <;> rcases j with _ | _ | _ | j <;> first | exact absurd rfl h | rfl

theorem mem_contexts {x : Slots} {c : JobContext} :
    c ∈ x.contexts ↔ x.s0 = some c ∨ x.s1 = some c ∨ x.s2 = some c := by
  simp [Slots.contexts, Option.mem_toList]

/-- The highest occupied slot is occupied, and none above it is. -/
theorem highest_some {x : Slots} {k : Nat} (h : x.highest = some k) :
    (x.get k).isSome = true ∧ ∀ j, k < j → x.get j = none := by
  obtain ⟨a, b, c⟩ := x
  cases a <;> cases b <;> cases c <;> simp [Slots.highest] at h <;> subst h <;>
    (refine ⟨rfl, fun j hj => ?_⟩; rcases j with _ | _ | _ | j <;> first | rfl | (exfalso; omega))

theorem highest_none {x : Slots} (h : x.highest = none) : x.contexts = [] := by
  obtain ⟨a, b, c⟩ := x
  cases a <;> cases b <;> cases c <;> simp [Slots.highest, Slots.contexts] at h ⊢

/-! ## The Zone Table -/

theorem insertZone_perm (z : Zone) (l : List Zone) : (insertZone z l).Perm (z :: l) := by
  induction l with
  | nil => exact .refl _
  | cons x xs ih =>
    rw [insertZone]; split
    · exact .refl _
    · exact (ih.cons x).trans (.swap z x xs)

@[simp] theorem mem_insertZone {z a : Zone} {l : List Zone} : a ∈ insertZone z l ↔ a = z ∨ a ∈ l := by
  rw [(insertZone_perm z l).mem_iff, List.mem_cons]

theorem mem_dropZone {id : Nat} {a : Zone} {l : List Zone} : a ∈ dropZone id l ↔ a ∈ l ∧ a.id ≠ id := by
  simp [dropZone]

theorem findZone_id {s : State} {id : Nat} {z : Zone} (h : s.findZone id = some z) : z.id = id := by
  simpa using List.find?_some h

/-- The zone that was placed is found. -/
theorem findZone_place (z : Zone) (l : List Zone) (h : ∀ x ∈ l, x.id ≠ z.id) :
    (insertZone z l).find? (fun x => x.id == z.id) = some z := by
  induction l with
  | nil => simp [insertZone]
  | cons x xs ih =>
    rw [insertZone]; split
    · simp
    · have := h x List.mem_cons_self
      simp [this, ih fun y hy => h y (List.mem_cons_of_mem _ hy)]

/-- The other zones are found as they were. -/
theorem findZone_place_other (z : Zone) (l : List Zone) (id : Nat) (h : id ≠ z.id) :
    (insertZone z l).find? (fun x => x.id == id) = l.find? fun x => x.id == id := by
  have hz : (z.id == id) = false := by simp; exact fun e => h e.symm
  induction l with
  | nil => simp [insertZone, hz]
  | cons x xs ih =>
    rw [insertZone]; split
    · simp [List.find?_cons, hz]
    · simp only [List.find?_cons, ih]

end Sys2Proof.Machine
end

