-- ==== Sys2Proof/Tests/Slice0.lean ====
section
/-!
SUPPORT. The model's own tests: ill-formed commands for every check of WellFormed, witnesses for the hypotheses of the
statements, and small steps of single commands.
-/

namespace Sys2Proof.Tests

open Sys2Proof.Machine Sys2Proof.Config

/-! ## Well-formedness: each check refuses a term -/

theorem test_wf_write : (Instr.write [] 8 false).wellFormed = false := by decide
theorem test_wf_identify : (Instr.identify 0 256).wellFormed = false := by decide
theorem test_wf_configure :
    (Instr.configure 0 (List.replicate 18 (1, 1))).wellFormed = false
      ∧ (Instr.configure 0 [(256, 1)]).wellFormed = false ∧ (Instr.configure 0 [(1, 4294967296)]).wellFormed = false := by
  decide

/-- Fields of a STATIC target. -/
def fields : TargetFields where
  level := some 1
  expected := some ⟨0, 4194304⟩
  tolerance := some 300
  gate := some 3000
  interval := some 60
  dwell := some 1000
  pattern := some 0
  notify := some 3

theorem test_wf_targetAdd_ok : (Instr.targetAdd 0 1 0 fields).wellFormed = true := by decide
theorem test_wf_targetAdd :
    (Instr.targetAdd 0 65536 0 fields).wellFormed = false ∧ (Instr.targetAdd 0 1 256 fields).wellFormed = false
      ∧ (Instr.targetAdd 0 1 0 { fields with level := some 256 }).wellFormed = false
      ∧ (Instr.targetAdd 0 1 0 { fields with expected := some ⟨2147483648, 0⟩ }).wellFormed = false
      ∧ (Instr.targetAdd 0 1 0 { fields with expected := some ⟨0, -2147483649⟩ }).wellFormed = false
      ∧ (Instr.targetAdd 0 1 0 { fields with tolerance := some 65536 }).wellFormed = false
      ∧ (Instr.targetAdd 0 1 0 { fields with gate := some 65536 }).wellFormed = false
      ∧ (Instr.targetAdd 0 1 0 { fields with interval := some 4294967296 }).wellFormed = false
      ∧ (Instr.targetAdd 0 1 0 { fields with quantum := some 65536 }).wellFormed = false
      ∧ (Instr.targetAdd 0 1 0 { fields with dwell := some 65536 }).wellFormed = false
      ∧ (Instr.targetAdd 0 1 0 { fields with pattern := some 256 }).wellFormed = false
      ∧ (Instr.targetAdd 0 1 0 { fields with band := some (65536, 0) }).wellFormed = false
      ∧ (Instr.targetAdd 0 1 0 { fields with band := some (0, 65536) }).wellFormed = false
      ∧ (Instr.targetAdd 0 1 0 { fields with notify := some 256 }).wellFormed = false := by decide
theorem test_wf_targetChange :
    (Instr.targetChange 0 65536 none false {}).wellFormed = false
      ∧ (Instr.targetChange 0 1 (some 256) false {}).wellFormed = false
      ∧ (Instr.targetChange 0 1 none false { level := some 256 }).wellFormed = false
      ∧ (Instr.targetChange 0 1 none true { band := some (0, 0) }).wellFormed = false := by decide
theorem test_wf_ids :
    (Instr.targetRead 0 65536).wellFormed = false ∧ (Instr.targetRetire 0 65536).wellFormed = false
      ∧ (Instr.targetHold 0 65536).wellFormed = false ∧ (Instr.targetResume 0 65536).wellFormed = false
      ∧ (Instr.clearFlags 0 65536 0).wellFormed = false ∧ (Instr.clearFlags 0 1 64).wellFormed = false
      ∧ (Instr.visitNow 0 65536 none).wellFormed = false ∧ (Instr.visitNow 0 1 (some 256)).wellFormed = false
      ∧ (Instr.release 0 (some 65536)).wellFormed = false := by decide
theorem test_wf_zone :
    (Instr.zoneSet 0 ⟨256, 0, 0, 0, 0, 0, 0⟩).wellFormed = false
      ∧ (Instr.zoneSet 0 ⟨1, 256, 0, 0, 0, 0, 0⟩).wellFormed = false
      ∧ (Instr.zoneSet 0 ⟨1, 0, 2147483648, 0, 0, 0, 0⟩).wellFormed = false
      ∧ (Instr.zoneSet 0 ⟨1, 0, 0, 2147483648, 0, 0, 0⟩).wellFormed = false
      ∧ (Instr.zoneSet 0 ⟨1, 0, 0, 0, 2147483648, 0, 0⟩).wellFormed = false
      ∧ (Instr.zoneSet 0 ⟨1, 0, 0, 0, 0, 2147483648, 0⟩).wellFormed = false
      ∧ (Instr.zoneSet 0 ⟨1, 0, 0, 0, 0, 0, 4294967296⟩).wellFormed = false
      ∧ (Instr.zoneRetire 0 256).wellFormed = false ∧ (Instr.zoneRead 0 256).wellFormed = false := by decide

/-- The fields of a pattern of one line. -/
def line : PatternFields := ⟨0, 1, 0, 0, ⟨1000, 0⟩, ⟨0, 0⟩, ⟨0, 0⟩, ⟨0, 0⟩, 1, 0⟩

theorem test_wf_pattern :
    (Instr.patternLoad 0 0 line).wellFormed = true ∧ (Instr.patternLoad 0 256 line).wellFormed = false
      ∧ (Instr.patternLoad 0 0 { line with mode := 256 }).wellFormed = false
      ∧ (Instr.patternLoad 0 0 { line with innerCount := 256 }).wellFormed = false
      ∧ (Instr.patternLoad 0 0 { line with middleCount := 256 }).wellFormed = false
      ∧ (Instr.patternLoad 0 0 { line with outerCount := 256 }).wellFormed = false
      ∧ (Instr.patternLoad 0 0 { line with innerStep := ⟨2147483648, 0⟩ }).wellFormed = false
      ∧ (Instr.patternLoad 0 0 { line with middleStep := ⟨0, 2147483648⟩ }).wellFormed = false
      ∧ (Instr.patternLoad 0 0 { line with outerStep := ⟨2147483648, 0⟩ }).wellFormed = false
      ∧ (Instr.patternLoad 0 0 { line with start := ⟨0, 2147483648⟩ }).wellFormed = false
      ∧ (Instr.patternLoad 0 0 { line with framesPerProbe := 256 }).wellFormed = false
      ∧ (Instr.patternLoad 0 0 { line with ending := 256 }).wellFormed = false
      ∧ (Instr.patternRead 0 256).wellFormed = false := by decide
theorem test_wf_point :
    (Instr.point 0 ⟨2147483648, 0⟩ 0 0).wellFormed = false ∧ (Instr.point 0 ⟨0, 2147483648⟩ 0 0).wellFormed = false
      ∧ (Instr.point 0 ⟨0, 0⟩ 256 0).wellFormed = false ∧ (Instr.point 0 ⟨0, 0⟩ 0 4294967296).wellFormed = false := by
  decide
theorem test_wf_modes :
    (Instr.stationMode 0 256).wellFormed = false ∧ (Instr.orientSet 0 2147483648).wellFormed = false := by decide
theorem test_wf_reports :
    (Instr.atPosition .hz turn 0).wellFormed = false ∧ (Instr.atPosition .hz (-1) 0).wellFormed = false
      ∧ (Instr.atPosition .v (vLow - 1) 0).wellFormed = false ∧ (Instr.atPosition .v (vHigh + 1) 0).wellFormed = false
      ∧ (Instr.fault .hz 0).wellFormed = false := by decide
theorem test_wf_expiries :
    (Instr.countdownExpiry 0).wellFormed = false ∧ (Instr.countdownExpiry 65535).wellFormed = false
      ∧ (Instr.deferralTimerExpiry 0).wellFormed = false ∧ (Instr.deferralTimerExpiry 65535).wellFormed = false
      ∧ (Instr.zoneLifetimeExpiry 0).wellFormed = false ∧ (Instr.zoneLifetimeExpiry 256).wellFormed = false := by decide

/-! ## Small states -/

/-- A STATIC record 1 in slot 0, in a state. -/
def rec1 (st : RecordState) : TargetRecord :=
  { addedRecord 0 1 0 fields with
    state := st
    dueReason := if st = .due then some .schedule else none
    countdown := if st = .waiting then some 60000 else if st = .lost then some 300000 else none }

/-- A MOVING record 1 in slot 0, in a state. -/
def mov1 (st : RecordState) : TargetRecord :=
  { rec1 st with
    fields := .moving 2
    countdown := none
    confirmation := some ⟨⟨0, 4194304⟩, 0, 500⟩ }

/-- A job of record 1. -/
def job1 (kind : JobKind) (phase : Phase) : JobContext :=
  { newContext kind (some 1) ⟨.visit 1, 1, .schedule, 0, false, none, none⟩ ⟨0, 4194304⟩
      (some (recordCopies (rec1 .active))) none none (configCopies Params.reset) with phase := phase }

/-- A POINT job. -/
def pointJob (phase : Phase) : JobContext :=
  { newContext .point none ⟨.point ⟨0, 4194304⟩ 500, 1, .host, 0, false, none, none⟩ ⟨0, 4194304⟩ none
      (some (.ms 500)) none (configCopies Params.reset) with phase := phase }

/-- The entry of record 1. -/
def entry1 : Entry := ⟨.visit 1, 1, .schedule, 0, false, none, none⟩

/-- A drive in a state, with nothing else set. -/
def driveIn (d : DriveState) : Drive := { Drive.reset with state := d }

/-- ACTIVE with the drive in a state, records and a job. -/
def active (d : DriveState) (records : List TargetRecord) (job : Option JobContext) : State :=
  { State.reset with
    mode := .active, drive := driveIn d, records := records, job := job, sensorOn := job.isSome }

/-- A zone over everything. -/
def zoneAll (id : Nat) (kind : ZoneKind) : Zone := ⟨id, kind, 0, 16777215, 0, 8388608, 10, some 10000⟩

def found1 : Found := ⟨true, ⟨400, 4194304⟩, 500, 7, false⟩

def dwell1 : JobContext := { job1 .visit .dwell with dwellLeft := some 0, found := some found1 }

def search1 (stage : Stage) : SearchState :=
  ⟨0, Pattern.grid, 4, 4, 0, ⟨-40000, -40000⟩, ⟨0, 4194304⟩, stage, 0, true, false⟩

def searching1 (stage : Stage) : JobContext :=
  { job1 .visit .search with search := some (search1 stage), searchLeft := some 0 }

/-! ## Witnesses: states and operands that meet the hypotheses -/

theorem stationOk_of (s : State) (h1 : (s.records.map (·.slot)).Pairwise (· < ·)) (h2 : s.patterns = resetPatterns)
    (h3 : s.zones = []) (h4 : ∀ r ∈ s.records, r.slot < tableCapacity) (h5 : (s.records.map (·.id)).Nodup)
    (ha : ArbiterOk s) (hl : LinksOk s) : StationOk s :=
  ⟨⟨h1, h4, h5, by simp [h3], by simp [h3], by simp [h2, resetPatterns, patternCount]⟩, ha, hl⟩

/-- The links of a state with one record and its job, in any orientation but DISTURBED. -/
theorem stationOk_job_in (o : Orientation) (ho : o.state ≠ .disturbed) (d : DriveState) (hd : d ≠ .fault) (r : TargetRecord)
    (c : JobContext) (hid : r.id = 1) (hs : r.slot = 0) (hst : r.state = .active) (hr : r.dueReason = none)
    (hf : r.flags.deferred = false) (hlv : r.level ≤ 3) (ht : c.target = some 1)
    (hk : c.kind = if r.fields.cls = .moving then .track else .visit) (hdw : c.phase = .dwell → c.found.isSome = true)
    (hp : c.phaseOfKind) : StationOk { active d [r] (some c) with orient := o } := by
  have hnp : c.kind ≠ .point := by rw [hk]; split <;> simp
  refine stationOk_of _ (by simp [active]) rfl rfl (by simp [active, hs, tableCapacity]) (by simp [active]) ?_ ?_
  · constructor <;> simp [active, State.reset, State.blocked, driveIn, ho, hd, slotBelow]
  · constructor <;> simp [active, State.reset, State.jobIsFor, State.slotIsFor, State.entryOf, Slots.contexts,
      State.contextLinked, State.kindIs, State.find, State.pointCount, State.pointInFlight, hid, hst, hr, hf, ht, hnp]
    · exact hk
    · exact hdw
    · exact hp
    · exact hlv

theorem stationOk_job (d : DriveState) (hd : d ≠ .fault) (r : TargetRecord) (c : JobContext)
    (hid : r.id = 1) (hs : r.slot = 0) (hst : r.state = .active) (hr : r.dueReason = none)
    (hf : r.flags.deferred = false) (hlv : r.level ≤ 3) (ht : c.target = some 1)
    (hk : c.kind = if r.fields.cls = .moving then .track else .visit) (hdw : c.phase = .dwell → c.found.isSome = true)
    (hp : c.phaseOfKind) : StationOk (active d [r] (some c)) :=
  stationOk_job_in Orientation.reset (by decide) d hd r c hid hs hst hr hf hlv ht hk hdw hp

theorem stationOk_reset : StationOk State.reset := by
  refine stationOk_of _ (by simp [State.reset]) rfl rfl (by simp [State.reset]) (by simp [State.reset]) ?_ ?_
  · constructor <;> simp [State.reset, slotBelow]
  · constructor <;> simp [State.reset, Slots.contexts, State.pointCount, State.pointInFlight]

/-- Reset with a reply held, a request in hand, or records. -/
def withPort (p : Port) : State := { State.reset with port := p }
def okReply : Reply := ⟨.ok, 1, [5]⟩

/-- The idle port, and a step with an expiry that has fallen due. -/
theorem test_witness_EveryStepAnswersNext :
    State.reset.pending = [] ∧ State.reset.dueExpiries = []
      ∧ ({ State.reset with zones := [⟨1, .glare, 0, 0, 0, 0, 1, some 0⟩] } : State).dueExpiries
          = [.zoneLifetimeExpiry 1] := by decide

/-- A timer at 0 of each kind, and one in a phase where it does not run. -/
theorem test_witness_DueExpiries :
    (active .ready [{ rec1 .waiting with countdown := some 0 }] none).dueExpiries = [.countdownExpiry 1]
      ∧ ({ active .ready [rec1 .due] none with due := [{ entry1 with deferTimer := some 0 }] } : State).dueExpiries
          = [.deferralTimerExpiry 1]
      ∧ dwell1.dueExpiries = [.dwellTimerExpiry]
      ∧ ({ pointJob .hold with holdLeft := some (.ms 0) } : JobContext).dueExpiries = [.holdTimerExpiry]
      ∧ (searching1 .taking).dueExpiries = [.searchLimitExpiry]
      ∧ ({ searching1 .taking with phase := .confirm } : JobContext).dueExpiries = []
      ∧ ({ job1 .track .coast with coastLeft := some 0, quantumLeft := some 0 } : JobContext).dueExpiries
          = [.coastTimerExpiry, .quantumExpiry]
      ∧ ({ driveIn .ready with wakeLimit := some 0, moveLimit := some 0, dozeDelay := some 0 } : Drive).dueExpiries
          = [.wakeLimitExpiry, .moveLimitExpiry, .dozeDelayExpiry] := by decide

theorem test_witness_RequestsParseBack :
    (Instr.targetAdd 7 1 0 fields).wellFormed = true ∧ (requestParts (Instr.targetAdd 7 1 0 fields)).isSome = true
      ∧ (requestAct (Instr.targetAdd 7 1 0 fields)).isSome = true := by decide

set_option maxRecDepth 100000 in
/-- The body of FIGURE 109 written out for a STATIC target, and its reading. -/
theorem test_targetAdd_body :
    parseRequest 0x10 7
      [0x00, 0x01, 0x00, 0x02, 0xDF, 0x01, 0x00, 0x00, 0x00, 0x00, 0x00, 0x40, 0x00, 0x00, 0x01, 0x2C, 0x0B, 0xB8,
       0x00, 0x00, 0x00, 0x3C, 0x00, 0x00, 0x03, 0xE8, 0x00, 0x00, 0x00, 0x00, 0x00, 0x03]
      = .request (.targetAdd 7 1 0 fields) := by decide

set_option maxRecDepth 100000 in
/-- The CRC of the nine digits is the known check value of this CRC. -/
theorem test_crc16 : crc16 [0x31, 0x32, 0x33, 0x34, 0x35, 0x36, 0x37, 0x38, 0x39] = 0x29B1#16 := by decide

theorem test_witness_WriteActsAsRequest :
    (Instr.status 3).wellFormed = true ∧ requestParts (Instr.status 3) = some (4, 3, []) := by decide

set_option maxRecDepth 100000 in
/-- A busy port, with and without an end of processing in the transaction; an idle one with a short frame, an unknown code,
and a body of the wrong length; a list of 17 pairs and one of 18; a band given and named as absent. -/
theorem test_witness_WriteChecksFrame :
    (withPort ⟨some okReply, none, false⟩).port.inHand ≠ none ∧ State.reset.port.inHand = none
      ∧ frameOk [] = false ∧ frameOk (requestFrame 0x06 9 []) = true ∧ 0x06 ∉ requestCodes
      ∧ parseRequest 0x06 9 [] = .unknown ∧ frameOk (requestFrame 0x04 9 [1]) = true ∧ 0x04 ∈ requestCodes
      ∧ parseRequest 0x04 9 [1] = .badForm ∧ ¬ bodyForm 0x04 [1] ∧ bodyForm 0x04 []
      ∧ bodyForm 0x02 (List.replicate 85 0) ∧ ¬ bodyForm 0x02 (List.replicate 90 0)
      ∧ ¬ bodyForm 0x11 ([0, 1, 0, 5, 0] ++ List.replicate 27 0) := by
  refine ⟨by decide, by decide, by decide, by decide, by decide, by decide, by decide, by decide, by decide, ?_, ?_, ?_, ?_,
    ?_⟩
  · simp [bodyForm]
  · simp [bodyForm]
  · simp only [bodyForm]
    refine ⟨by decide, by decide, by decide, by decide, fun _ => ⟨17, by decide, by decide⟩, by decide, by decide, by decide,
      by decide, by decide, by decide, by decide, by decide⟩
  · intro h
    obtain ⟨n, hn, h⟩ := h.2.2.2.2.1 rfl
    have : (List.replicate 90 (0 : Byte)).length = 90 := by decide
    omega
  · intro h
    exact (h.2.2.2.2.2.2.1 rfl).2.2 (by decide)

/-- A frame of one byte is answered with tag 0. -/
theorem test_write_short :
    exec (.write [4] 0 false) State.reset
      = .next { (State.reset.answered 0 .badFrame []) with spiOut := [1] } := rfl

theorem test_witness_ReplyPublishedAndRead :
    (withPort ⟨some okReply, none, false⟩).port.inHand = some okReply ∧ State.reset.port.inHand = none
      ∧ (withPort ⟨none, some okReply, false⟩).port.last = some okReply
      ∧ (withPort ⟨none, some okReply, false⟩).port.inHand = none ∧ State.reset.port.last = none
      ∧ okReply.body.length ≤ 512 ∧ transactionKind 0x00 = .poll ∧ (0x00 : Byte) ≠ 0xA1 ∧ (0x00 : Byte) ≠ 0xA2 := by decide

theorem test_witness_RequestsTakenOrRefused :
    (∃ tag act, requestAct (Instr.driveReset 1) = some (tag, act) ∧ (act State.reset).2.1 ≠ .ok)
      ∧ State.reset.port.inHand = none ∧ (withPort ⟨some okReply, none, false⟩).port.inHand ≠ none :=
  ⟨⟨1, reqDriveReset, rfl, by decide⟩, by decide, by decide⟩

/-- The idle port: the one hypothesis of IdentifyAnswersItem, ClearStationClears, ClockReadAndSet and others. -/
theorem test_witness_idle : State.reset.port.inHand = none := rfl

/-- A list that passes at the edges of its ranges, and lists that fail by number, by repeat and by value. -/
theorem test_witness_ConfigurationWrittenAndRead :
    ([(1, 1), (17, 65535)] : List (Nat × Nat)).all pairInRange = true ∧ pairInRange (0, 1) = false
      ∧ pairInRange (18, 1) = false ∧ pairInRange (1, 16) = false ∧ pairInRange (4, 499) = false
      ∧ pairsDistinct [(1, 1), (1, 2)] = false ∧ paramValue State.reset.params 17 < 256 ^ 4 := by decide

/-- A job in flight and an occupied slot. -/
theorem test_witness_StatusAnswers :
    let s : State := { active .ready [rec1 .active] (some (job1 .visit .look)) with
      slots := ⟨some (pointJob .hold), none, none⟩ }
    s.port.inHand = none ∧ -halfTurn ≤ s.orient.offset ∧ s.orient.offset < halfTurn ∧ s.records.length ≤ 48
      ∧ s.zones.length ≤ 12 ∧ (∀ n, (s.level n).length ≤ 49) ∧ s.job = some (job1 .visit .look)
      ∧ s.slots.get 0 = some (pointJob .hold) ∧ s.slots.get 2 = none
      ∧ ∀ c ∈ s.job.toList ++ s.slots.contexts, c.target.getD 0 ≤ 65534 ∧ c.level ≤ 3 := by
  refine ⟨by decide, by decide, by decide, by decide, by decide, fun n => ?_, rfl, rfl, rfl, by decide⟩
  simp [active, State.reset, State.level]

theorem test_witness_ClearStationClears :
    (active .fault [] none).drive.state = .fault ∧ State.reset.drive.state = .rest
      ∧ (active .waking [] none).drive.state = .waking ∧ (active .ready [] none).drive.state = .ready
      ∧ (active .slewing [] none).drive.state = .slewing ∧ (active .steering [] none).drive.state = .steering := by decide

/-- A drive that slews and one that steers, in a station that holds together. -/
theorem test_witness_ClearStationStops :
    let slewing : State := { State.reset with
      drive := { driveIn .slewing with awaitV := true, moveLimit := some 8000, purpose := .park, parkPending := true } }
    StationOk slewing ∧ RestOk slewing ∧ slewing.drive.state = .slewing
      ∧ StationOk (active .steering [mov1 .active] (some (job1 .track .track)))
      ∧ RestOk (active .steering [mov1 .active] (some (job1 .track .track))) := by
  refine ⟨?_, ⟨?_, by decide, by decide⟩, rfl,
    stationOk_job _ (by decide) _ _ rfl rfl rfl rfl rfl (by decide) rfl rfl (by decide) (by decide),
    ⟨?_, by decide, by decide⟩⟩
  · refine stationOk_of _ (by simp [State.reset]) rfl rfl (by simp [State.reset]) (by simp [State.reset]) ?_ ?_
    · constructor <;> simp [State.reset, slotBelow]
    · constructor <;> simp [State.reset, Slots.contexts, State.pointCount, State.pointInFlight]
  · constructor <;> decide
  · constructor <;> decide

theorem test_witness_ClockReadAndSet :
    (State.reset.answered 1 .ok (beU 4 0)).port = ⟨some ⟨.ok, 1, beU 4 State.reset.clock.toNat⟩, none, false⟩
      ∧ ([] : List Byte).length ≠ 4 := by decide

theorem test_witness_AttentionFlagsAndMask :
    exec (.stalled .hz) State.reset = .next (State.reset.faultReported .stallHz 0) := rfl

/-- Fields that pass and fail the first check; an id taken; a full table of 48 slots; a free lowest slot. -/
theorem test_witness_TargetAddChecksAndCreates :
    addFieldsOk 1 0 fields ∧ ¬ addFieldsOk 0 0 fields ∧ ¬ addFieldsOk 65535 0 fields ∧ ¬ addFieldsOk 1 3 fields
      ∧ addFieldsOk 65534 2 { fields with tolerance := none, interval := none, dwell := none, quantum := some 0 }
      ∧ (∃ r ∈ (active .ready [rec1 .waiting] none).records, r.id = 1)
      ∧ (∀ n < 48, ∃ r ∈ ((List.range 48).map fun k => addedRecord k (k + 2) 0 fields), r.slot = n)
      ∧ (∀ r ∈ ((List.range 48).map fun k => addedRecord k (k + 2) 0 fields), r.id ≠ 1)
      ∧ (∀ r ∈ State.reset.records, r.slot ≠ 0) := by
  refine ⟨by unfold addFieldsOk; decide, by unfold addFieldsOk; decide, by unfold addFieldsOk; decide,
    by unfold addFieldsOk; decide, by unfold addFieldsOk; decide, by decide, ?_, ?_, by decide⟩
  · intro n hn; exact ⟨addedRecord n (n + 2) 0 fields, List.mem_map.2 ⟨n, List.mem_range.2 hn, rfl⟩, rfl⟩
  · intro r hr
    obtain ⟨k, _, rfl⟩ := List.mem_map.1 hr
    simp [addedRecord]

/-- A change that is quiet, and each reason of a refusal; a DUE entry that rises, and one that follows no level. -/
theorem test_witness_TargetChangeWrites :
    (active .ready [rec1 .waiting] none).find 1 = some (rec1 .waiting) ∧ State.reset.find 1 = none
      ∧ TargetFields.changeAllowed { interval := some 30 } none (rec1 .waiting) = true
      ∧ TargetFields.changeAllowed {} (some 0) (rec1 .waiting) = false
      ∧ TargetFields.foreignTo { quantum := some 1 } (rec1 .waiting).fields = true
      ∧ TargetFields.inRange { interval := some 0 } = false
      ∧ (TargetFields.overClass { gate := some 299 } (rec1 .waiting).fields).toleranceOr0 = 300
      ∧ ({ active .ready [rec1 .due] none with due := [entry1] } : State).entryOf 1 = some entry1
      ∧ entry1.levelGiven = false ∧ entry1.reason ≠ .reorient ∧ (rec1 .due).dueReason = some entry1.reason
      ∧ (∀ e, (active .ready [rec1 .waiting] none).entryOf 1 = some e → e.level = 3)
      ∧ gateCovers (rec1 .due).fields (rec1 .due).gate = true := by decide

/-- A change of several fields that passes, with a level and a direction among them; one whose entry moves, and one whose entry
stays; changes that fail by class, by band, by a foreign field, by a value and by the gate. -/
theorem test_witness_changeOk :
    changeOk none false { level := some 3, expected := some ⟨5, 4194304⟩, interval := some 30, gate := some 4000 } (rec1 .due)
      ∧ (active .ready [rec1 .due] none).jobIsFor 1 = false ∧ (active .ready [rec1 .due] none).slotIsFor 1 = false
      ∧ entry1.level ≠ 3 ∧ entry1.level = ({} : TargetFields).level.getD entry1.level
      ∧ ¬ changeOk (some 0) false {} (rec1 .due) ∧ ¬ changeOk none true { band := some (1, 2) } (rec1 .due)
      ∧ ¬ changeOk none false { quantum := some 1 } (rec1 .due) ∧ ¬ changeOk none false { level := some 4 } (rec1 .due)
      ∧ ¬ changeOk none false { gate := some 299 } (rec1 .due)
      ∧ changeOk none true { expected := some ⟨5, 4194304⟩ } (rec1 .active) := by
  unfold changeOk; decide

theorem test_witness_TargetChangeNewDirection :
    StationOk (active .ready [rec1 .active] (some (job1 .visit .look)))
      ∧ (active .ready [rec1 .active] (some (job1 .visit .look))).find 1 = some (rec1 .active)
      ∧ validDir ⟨5, 4194304⟩ = true ∧ gateCovers (rec1 .active).fields (rec1 .active).gate = true :=
  ⟨stationOk_job _ (by decide) _ _ rfl rfl rfl rfl rfl (by decide) rfl rfl (by decide) (by decide), rfl, by decide, by decide⟩

/-- A record with every optional group at the edges of its ranges, and its entry. -/
def fullRec : TargetRecord :=
  { rec1 .due with
    slot := 47, id := 65534, band := some ⟨0, 1023⟩, missCount := 255, flags := ⟨true, true, true, true, true, true⟩
    confirmation := some ⟨⟨16777215, vHigh⟩, 4294967295, 1023⟩, residual := some ⟨-8388608, -12000⟩
    rate := some ⟨-200000, 200000⟩, lastEnd := some .cleared }

theorem test_witness_TargetReadAndList :
    (active .ready [fullRec] none).find 65534 = some fullRec ∧ RecordOk fullRec ∧ fullRec.countdown.getD 0 < 2 ^ 32
      ∧ (∀ x, fullRec.confirmation = some x → fits32 x.dir.hz ∧ fits32 x.dir.v ∧ x.strength < 2 ^ 16)
      ∧ (∀ x, fullRec.residual = some x → fits32 x.hz ∧ fits32 x.v)
      ∧ (∀ x, fullRec.rate = some x → fits32 x.hz ∧ fits32 x.v) ∧ State.reset.find 65534 = none := by
  refine ⟨by decide, ?_, by decide, ?_, ?_, ?_, by decide⟩
  · constructor <;> decide
  · rintro x ⟨⟩; decide
  · rintro x ⟨⟩; decide
  · rintro x ⟨⟩; decide

/-- For TARGET RETIRE and TARGET HOLD. -/
theorem test_witness_retireAndHold :
    StationOk (active .ready [rec1 .active] (some (job1 .visit .look)))
      ∧ (active .ready [rec1 .active] (some (job1 .visit .look))).find 1 = some (rec1 .active) :=
  ⟨stationOk_job _ (by decide) _ _ rfl rfl rfl rfl rfl (by decide) rfl rfl (by decide) (by decide), rfl⟩

/-- For the stop request of an end: a job that steers, one that slews, and a record SUSPENDED under a POINT of a level above. -/
theorem test_witness_stopRequest :
    let suspended : State := { active .ready [rec1 .suspended] (some { pointJob .hold with level := 2 }) with
      slots := ⟨none, some (job1 .visit .look), none⟩ }
    StationOk (active .steering [mov1 .active] (some (job1 .track .track)))
      ∧ StationOk (active .slewing [rec1 .active] (some (job1 .visit .slew)))
      ∧ StationOk suspended ∧ suspended.find 1 = some (rec1 .suspended) ∧ (rec1 .suspended).state = .suspended := by
  refine ⟨stationOk_job _ (by decide) _ _ rfl rfl rfl rfl rfl (by decide) rfl rfl (by decide) (by decide),
    stationOk_job _ (by decide) _ _ rfl rfl rfl rfl rfl (by decide) rfl rfl (by decide) (by decide), ?_, rfl, rfl⟩
  refine stationOk_of _ (by decide) rfl rfl (by decide) (by decide) ?_ ?_
  · constructor <;> decide
  · constructor <;> simp [active, State.reset, State.jobIsFor, State.slotIsFor, State.entryOf, Slots.contexts,
      State.contextLinked, State.kindIs, State.find, State.pointCount, State.pointInFlight, JobContext.phaseOfKind, rec1,
      job1, pointJob, addedRecord, addedFields, fields, newContext, ClassFields.cls]

theorem test_witness_TargetResumeMakesDue :
    (active .ready [rec1 .held] none).find 1 = some (rec1 .held) ∧ (rec1 .held).state = .held
      ∧ (active .ready [rec1 .lost] none).find 1 = some (rec1 .lost) ∧ (rec1 .lost).state ≠ .held
      ∧ State.reset.find 1 = none := by decide

theorem test_witness_ClearFlagsClearsNamed :
    (active .ready [rec1 .waiting] none).find 1 = some (rec1 .waiting) ∧ (27 : Byte).toNat < 64
      ∧ (27 : Byte).getLsbD 2 = false ∧ (27 : Byte).getLsbD 5 = false ∧ (32 : Byte).getLsbD 5 = true
      ∧ ¬ (64 : Byte).toNat < 64 ∧ State.reset.find 1 = none := by decide

theorem test_witness_ChangedListTakesNews : (State.reset.records.map (·.id)).Nodup := by decide

theorem test_witness_VisitNowByState :
    State.reset.find 1 = none
      ∧ (∀ st, (active .ready [rec1 st] none).find 1 = some (rec1 st) ∧ (rec1 st).state = st)
      ∧ ({ active .ready [rec1 .due] none with due := [entry1] } : State).entryOf 1 = some entry1
      ∧ (rec1 .due).dueReason ≠ some .reorient
      ∧ ({ rec1 .due with dueReason := some .reorient } : TargetRecord).state = .due := by
  refine ⟨by decide, fun st => by cases st <;> decide, by decide, by decide, by decide⟩

/-- A TRACK job with a record whose prediction is its confirmed direction. -/
def tracked (mark : Bool) (zones : List Zone) : State :=
  { active .steering [mov1 .active] (some { job1 .track .track with shadowMark := mark }) with zones := zones }

/-- A zone that covers nothing near the aim. -/
def zoneAway (id : Nat) : Zone := ⟨id, .shadow, 8000000, 8000001, 0, 8388608, 10, some 10000⟩

/-- A zone that passes, zones that fail at an edge, a free table and a full one; a new zone and one that is replaced; an aim
covered and one not; a prediction in the zone, in another one with the mark clear and set, and in none. -/
theorem test_witness_ZoneSetPlacesAndTells :
    (ZoneFields.toZone ⟨1, 0, 0, 16777215, 0, 8388608, 86400⟩).isSome = true
      ∧ ZoneFields.toZone ⟨0, 0, 0, 0, 0, 0, 0⟩ = none ∧ ZoneFields.toZone ⟨1, 2, 0, 0, 0, 0, 0⟩ = none
      ∧ ZoneFields.toZone ⟨1, 0, 0, 16777216, 0, 0, 0⟩ = none ∧ ZoneFields.toZone ⟨1, 0, 0, 0, 1, 0, 0⟩ = none
      ∧ ZoneFields.toZone ⟨1, 0, 0, 0, 0, 0, 86401⟩ = none
      ∧ ZoneFields.toZone ⟨1, 0, 0, 16777215, 0, 8388608, 10⟩ = some (zoneAll 1 .shadow)
      ∧ State.reset.findZone 1 = none ∧ State.reset.zones.length < 12
      ∧ ((tracked false [zoneAway 1]).findZone 1).isSome = true
      ∧ ({ State.reset with zones := (List.range 12).map fun k => zoneAll (k + 2) .glare } : State).findZone 1 = none
      ∧ 12 ≤ ((List.range 12).map fun k => zoneAll (k + 2) .glare).length
      ∧ (job1 .visit .look).kind ≠ .point ∧ (zoneAll 1 .shadow).contains (job1 .visit .look).aim = true
      ∧ (zoneAway 1).contains (job1 .visit .look).aim = false
      ∧ ({ job1 .visit .confirm with origin := some .look } : JobContext).origin = some .look
      ∧ ({ job1 .visit .confirm with origin := some .search } : JobContext).origin ≠ some .look
      ∧ (pointJob .hold).kind = .point ∧ dwell1.phase = .dwell := by decide
theorem test_witness_ZoneTestOfTrack :
    (tracked false []).find 1 = some (mov1 .active)
      ∧ (zoneAll 1 .shadow).contains ((mov1 .active).prediction (tracked false []).clock) = true
      ∧ (zoneAway 2).contains ((mov1 .active).prediction 0) = false
      ∧ inZones (tracked false [zoneAll 1 .shadow]).zones .shadow ((mov1 .active).prediction 0) = true
      ∧ inZones (tracked false [zoneAway 1]).zones .shadow ((mov1 .active).prediction 0) = false
      ∧ (job1 .track .track).phase = .track ∧ (job1 .visit .look).phase ≠ .track
      ∧ StationOk (active .ready [rec1 .active] (some (job1 .visit .look))) ∧ (job1 .visit .look).reason ≠ .reorient :=
  ⟨rfl, by decide, by decide, by decide, by decide, by decide, by decide,
    stationOk_job _ (by decide) _ _ rfl rfl rfl rfl rfl (by decide) rfl rfl (by decide) (by decide), by decide⟩

theorem test_witness_ZoneTestAndPrediction :
    (zoneAll 1 .glare).contains ⟨0, 0⟩ = true ∧ 0 ≤ (zoneAll 1 .glare).hzFrom ∧ (zoneAll 1 .glare).hzTo < turn
      ∧ (rec1 .waiting).confirmation = none ∧ (mov1 .active).confirmation = some ⟨⟨0, 4194304⟩, 0, 500⟩
      ∧ (mov1 .active).rate = none ∧ ({ mov1 .active with rate := some ⟨5, 0⟩ } : TargetRecord).rate = some ⟨5, 0⟩ := by
  decide

theorem test_witness_ZoneRemoved :
    State.reset.findZone 1 = none
      ∧ ({ State.reset with zones := [zoneAll 1 .glare] } : State).findZone 1 = some (zoneAll 1 .glare)
      ∧ (zoneAll 1 .glare).remaining ≠ none ∧ validZoneId 0 = false ∧ validZoneId 255 = true ∧ validZoneId 256 = false
      ∧ ({ zoneAll 1 .glare with remaining := none } : Zone).remaining = none
      ∧ ({ withPort ⟨none, some okReply, false⟩ with zones := [zoneAll 1 .glare] } : State).findZone 1
          = some (zoneAll 1 .glare) := by decide

theorem test_witness_ZoneAndPatternRead :
    ({ State.reset with zones := [zoneAll 1 .glare] } : State).findZone 1 = some (zoneAll 1 .glare)
      ∧ State.reset.findZone 255 = none ∧ State.reset.patterns.length = 8
      ∧ State.reset.patterns[7]? = some Pattern.single := by decide

/-- Fields that pass and that fail; a pattern in use and one that is not. -/
theorem test_witness_PatternLoadReplaces :
    (PatternFields.toPattern line).isSome = true ∧ PatternFields.toPattern { line with innerCount := 64 } = none
      ∧ (active .ready [rec1 .active] (some (searching1 .taking))).patternBusy 0 = true
      ∧ (active .ready [rec1 .active] (some (searching1 .taking))).patternBusy 1 = false := by decide

/-- Each advance and each last probe; a probe skipped and one not; ENDS and REPEATS with its mark set and clear; a search that
waits and one that does not. -/
theorem test_witness_SearchPassCounts :
    0 < (search1 .taking).inner ∧ (search1 .taking).pattern.mode = .raster ∧ Pattern.single.mode = .line
      ∧ 0 < ({ search1 .taking with inner := 0 } : SearchState).middle
      ∧ ({ search1 .taking with inner := 0, middle := 0 } : SearchState).advance = none
      ∧ ({ search1 .taking with
          inner := 0, middle := 0, outer := 1, pattern := { Pattern.grid with mode := .stack } } : SearchState).advance ≠ none
      ∧ State.reset.skips ⟨0, vLow⟩ = false ∧ State.reset.skips ⟨0, vLow - 1⟩ = true
      ∧ ({ State.reset with zones := [zoneAll 1 .shadow] } : State).skips ⟨0, vLow⟩ = true
      ∧ (search1 .taking).pattern.ending = .ends ∧ ({ Pattern.grid with ending := .repeats } : Pattern).ending = .repeats
      ∧ (search1 .taking).passSlewed = true ∧ ({ search1 .taking with passSlewed := false } : SearchState).passSlewed = false
      ∧ (searching1 .waiting).phase = .search ∧ (searching1 .waiting).search = some (search1 .waiting)
      ∧ (search1 .waiting).stage = .waiting ∧ (search1 .taking).stage ≠ .waiting := by decide

theorem test_witness_PointJoins :
    pointInRange ⟨16777215, vHigh⟩ 3 600000 = true ∧ pointInRange ⟨0, vLow - 1⟩ 0 0 = false
      ∧ pointInRange ⟨0, vLow⟩ 0 600001 = false ∧ State.reset.pointCount = 0 ∧ State.reset.pointInFlight = false
      ∧ (active .ready [] (some (pointJob .hold))).job = some (pointJob .hold) ∧ (pointJob .hold).target = none := by decide

theorem test_witness_ReleaseEnds :
    dwell1.kind = .visit ∧ dwell1.target = some 1 ∧ dwell1.phase = .dwell ∧ dwell1.found = some found1
      ∧ (pointJob .hold).phase = .hold ∧ (pointJob .hold).reason = .host ∧ (pointJob .hold).target = none
      ∧ (∃ e ∈ [(⟨.point ⟨0, vLow⟩ 0, 0, .host, 0, false, none, none⟩ : Entry)], e.work.target = none)
      ∧ (∃ c ∈ (⟨some (pointJob .hold), none, none⟩ : Slots).contexts, c.kind = .point)
      ∧ (∀ e ∈ State.reset.due, e.work.target ≠ none) := by decide

theorem test_witness_StationModeSelects :
    stationModeOf 0 = some .active ∧ stationModeOf 1 = some .doze ∧ stationModeOf 2 = some .parked
      ∧ State.reset.mode = .parked ∧ (active .ready [] none).mode ≠ .parked ∧ (active .ready [] none).mode ≠ .doze
      ∧ (active .waking [] none).drive.state = .waking ∧ (active .slewing [] none).job = none := by decide
/-- A job that steers and a job that slews. -/
theorem test_witness_StationModeParksJobs :
    DutyOk (active .steering [mov1 .active] (some (job1 .track .track)))
      ∧ DutyOk { active .slewing [rec1 .active] (some (job1 .visit .slew)) with
          drive := { driveIn .slewing with purpose := .job } } := by
  constructor <;> constructor <;>
    simp [active, State.reset, Slots.contexts, job1, newContext, rec1, mov1, addedRecord, fields, vInLimits, vLow, vHigh,
      State.phaseFits, driveIn, Drive.reset]

/-- A REFERENCE record. -/
def ref1 (st : RecordState) : TargetRecord := { rec1 st with fields := .reference ⟨300, 60, 1000⟩ }

theorem test_witness_ReorientStarts :
    (ref1 .waiting).fields.cls = .reference ∧ (ref1 .waiting).state = .waiting
      ∧ (active .ready [ref1 .waiting] none).orient.state = .oriented
      ∧ (active .ready [ref1 .waiting] none).orient.outCount = 0
      ∧ ((active .ready [ref1 .waiting] none).records.map (·.id)).Nodup
      ∧ (active .ready [ref1 .waiting] none).mayReorient = true ∧ State.reset.mayReorient = false
      ∧ (∀ r ∈ (active .ready [ref1 .waiting] none).records,
          ((active .ready [ref1 .waiting] none).entryOf r.id).isSome = true → r.state = .due)
      ∧ (rec1 .waiting).fields.cls ≠ .reference
      ∧ CountdownsOk (active .ready [ref1 .waiting] none) := by
  refine ⟨by decide, by decide, by decide, by decide, by decide, by decide, by decide, by decide, by decide, ?_⟩
  constructor <;> decide

/-- A reorientation with a REFERENCE record WAITING and one DUE and deferred, and one with an entry of reason REORIENT. -/
theorem test_witness_reorientEntries :
    let deferred : TargetRecord := { ref1 .due with
      slot := 1, id := 2, flags := { (ref1 .due).flags with deferred := true } }
    let starting : State := { active .ready [ref1 .waiting, deferred] none with
      due := [⟨.visit 2, 1, .schedule, 0, false, some 5, some 7⟩] }
    let running : State := { active .ready [ref1 .waiting, { deferred with dueReason := some .reorient }] none with
      due := [⟨.visit 2, 3, .reorient, 0, false, some 5, some 7⟩]
      orient := { Orientation.reset with state := .reorienting } }
    StationOk starting ∧ StationOk running := by
  constructor <;> refine stationOk_of _ (by decide) rfl rfl (by decide) (by decide) ?_ ?_
  · constructor <;> decide
  · constructor <;> simp [active, State.reset, State.jobIsFor, State.slotIsFor, State.entryOf, Slots.contexts,
      State.entryLinked, State.kindIs, State.find, State.pointCount, State.pointInFlight, ref1, rec1, addedRecord,
      addedFields, fields, Work.target, ClassFields.cls]
  · constructor <;> decide
  · constructor <;> simp [active, State.reset, State.jobIsFor, State.slotIsFor, State.entryOf, Slots.contexts,
      State.entryLinked, State.kindIs, State.find, State.pointCount, State.pointInFlight, ref1, rec1, addedRecord,
      addedFields, fields, Work.target, ClassFields.cls]

/-- Reset in an orientation state. -/
def oriented (st : OrientState) (out inn : Nat) : State :=
  { State.reset with orient := { Orientation.reset with state := st, outCount := out, inCount := inn } }

/-- A job in flight at the sample that disturbs and at the entry into PARKED, its record ACTIVE. -/
theorem test_witness_AbortLeaves :
    let s : State := { active .ready [rec1 .active] (some (job1 .visit .look)) with
      orient := (oriented .oriented 3 0).orient }
    StationOk s ∧ OrientOk s ∧ s.mode ≠ .parked ∧ s.params.tiltFilter ≤ s.orient.outCount + 1
      ∧ ∃ r ∈ s.records, r.state = .active := by
  refine ⟨stationOk_job_in _ (by decide) _ (by decide) _ _ rfl rfl rfl rfl rfl (by decide) rfl rfl (by decide) (by decide), ?_,
    by decide, by decide, by decide⟩
  constructor <;> decide

theorem test_witness_OrientSetSets :
    (oriented .disturbed 0 0).orient.state = .disturbed ∧ (oriented .oriented 0 0).orient.state = .oriented
      ∧ (oriented .unoriented 0 0).orient.state = .unoriented
      ∧ (oriented .reorienting 0 0).orient.state = .reorienting := by decide

/-- At the limit a sample is in window; one above it is out; each count below and at TILT_FILTER. -/
theorem test_witness_TiltSampleCounts :
    outOfWindow 3000 3000 (-3000) = false ∧ outOfWindow 3000 (-3001) 0 = true
      ∧ (oriented .oriented 2 0).orient.outCount + 1 < State.reset.params.tiltFilter
      ∧ State.reset.params.tiltFilter ≤ (oriented .oriented 3 0).orient.outCount + 1
      ∧ (oriented .disturbed 0 2).orient.inCount + 1 < State.reset.params.tiltFilter
      ∧ State.reset.params.tiltFilter ≤ (oriented .disturbed 0 3).orient.inCount + 1
      ∧ (∀ r ∈ [ref1 .held], r.fields.cls = .reference → r.state = .held)
      ∧ (∃ r ∈ [ref1 .lost], r.fields.cls = .reference ∧ r.state ≠ .held) := by decide

/-- A job that has found something in a reorientation, its own and an earlier one; a tally that is accepted, one that is too
small, and the empty one. -/
theorem test_witness_TallyJudged :
    let own : JobContext := { dwell1 with reason := .reorient }
    let left : JobContext := { own with leftOver := true }
    let s : State := { active .ready [ref1 .active] (some own) with orient := (oriented .reorienting 0 0).orient }
    own.target = some 1 ∧ s.find 1 = some (ref1 .active) ∧ own.found = some found1 ∧ own.reason = .reorient
      ∧ own.leftOver = false ∧ left.leftOver = true ∧ s.orient.state = .reorienting
      ∧ (⟨2, 130, some (30, 95), [1, 2]⟩ : Tally).range = some (30, 95) ∧ (95 : Int) - 30 ≤ 65
      ∧ State.reset.params.refMin ≤ 2 ∧ State.reset.params.orientSpread = 65
      ∧ (⟨1, 5, some (5, 5), [1]⟩ : Tally).count < State.reset.params.refMin
      ∧ s.orient.tally = ⟨0, 0, none, []⟩ := by decide

theorem test_witness_FaultUntilReset :
    (active .fault [] none).drive.state = .fault ∧ State.reset.drive.state ≠ .fault := by decide

/-- DOZE with the drive in a state, nothing else set. -/
def dozeIn (d : Drive) : State := { State.reset with mode := .doze, drive := d }

/-- A wake with its other mark set and not set; a job in WAKE; a search that waits for the wake and one in WAITING; a pending park;
neither; DOZE. -/
theorem test_witness_ReadyReportWakes :
    (driveIn .waking).state = .waking ∧ (driveIn .waking).readyV = false
      ∧ ({ driveIn .waking with readyV := true } : Drive).readyV = true ∧ (job1 .visit .wake).phase = .wake
      ∧ vInLimits (job1 .visit .wake).aim.v = true
      ∧ ({ driveIn .waking with parkPending := true } : Drive).parkPending = true
      ∧ (active .waking [] none).job = none ∧ (active .waking [] none).mode ≠ .doze
      ∧ (searching1 .slewing).search = some (search1 .slewing) ∧ (search1 .slewing).stage = .slewing
      ∧ vInLimits (search1 .slewing).direction.v = true ∧ (search1 .waiting).stage = .waiting
      ∧ (dozeIn (driveIn .waking)).mode = .doze ∧ 0 < State.reset.params.dozeDelay := by decide
/-- A wake and a slew that end in DOZE. -/
theorem test_witness_RestOkInDoze :
    RestOk (dozeIn { driveIn .waking with wakeLimit := some 9, readyV := true })
      ∧ RestOk (dozeIn { driveIn .slewing with moveLimit := some 9, awaitHz := true, purpose := .job }) := by
  constructor <;> refine ⟨?_, by decide, by decide⟩ <;> constructor <;> decide

/-- A slew of each purpose with one axis and with both awaited. -/
theorem test_witness_AtPositionEndsSlew :
    (driveIn .slewing).state = .slewing
      ∧ ({ driveIn .slewing with awaitHz := true, awaitV := true } : Drive).answers .hz 0 = true
      ∧ ({ driveIn .slewing with awaitHz := true, purpose := .job } : Drive).answers .hz 0 = true
      ∧ ({ driveIn .slewing with awaitV := true, purpose := .park } : Drive).answers .v 0 = true
      ∧ (driveIn .slewing).answers .hz 0 = false ∧ (job1 .visit .slew).phase = .slew
      ∧ (driveIn .slewing).parkPending = false ∧ (driveIn .slewing).purpose = .none
      ∧ (active .slewing [] none).job = none ∧ ({ driveIn .slewing with parkPending := true } : Drive).parkPending = true
      ∧ (searching1 .slewing).search = some (search1 .slewing) ∧ (search1 .slewing).stage = .slewing
      ∧ (search1 .slewing).limitOut = false ∧ ({ search1 .slewing with limitOut := true } : SearchState).limitOut = true := by
  decide
theorem test_witness_AtProbeWithLimitOut :
    StationOk (active .slewing [rec1 .active] (some { searching1 .slewing with
      search := some { search1 .slewing with limitOut := true } })) :=
  stationOk_job _ (by decide) _ _ rfl rfl rfl rfl rfl (by decide) rfl rfl (by decide) (by decide)

theorem test_witness_FaultEndsWork :
    StationOk (active .ready [rec1 .active] (some (job1 .visit .look)))
      ∧ OrientOk (active .ready [rec1 .active] (some (job1 .visit .look)))
      ∧ (driveIn .ready).state ≠ .fault ∧ (rec1 .active).state = .active
      ∧ ({ driveIn .waking with wakeLimit := some 0 } : Drive).wakeLimit ≠ none
      ∧ ({ driveIn .slewing with moveLimit := some 0 } : Drive).moveLimit ≠ none := by
  refine ⟨stationOk_job _ (by decide) _ _ rfl rfl rfl rfl rfl (by decide) rfl rfl (by decide) (by decide), ?_,
    by decide, by decide, by decide, by decide⟩
  constructor <;> decide

theorem test_witness_DozeDelayRests :
    State.reset.drive.dozeDelay = none ∧ ({ driveIn .ready with dozeDelay := some 0 } : Drive).dozeDelay ≠ none := by
  decide

theorem test_witness_CommandsSentFollowRules :
    Instr.dozeDelayExpiry ≠ .powerOn ∧ exec .dozeDelayExpiry State.reset = .next State.reset
      ∧ ∀ x ∈ State.reset.axisOut, x.insideLimits = true := by
  refine ⟨by decide, rfl, by decide⟩

/-- A well-formed frame of one spot, written out by FIGURE 107. -/
def frame1 : List Byte :=
  [0x00, 0x07, 0x00, 0x00, 0x00, 0x00, 0x64, 0x00, 0x40, 0x00, 0x00, 0x01, 0xFF, 0xFE, 0x00, 0x0A, 0x01, 0xF4, 0x05]

set_option maxRecDepth 100000 in
/-- The frame, and frames malformed by a status, a spot count, a length, an offset and a size. -/
theorem test_frame_parses :
    parseSensorFrame frame1
      = some ⟨7, false, ⟨100, 4194304⟩, [⟨⟨-2, 10⟩, 500, 5⟩]⟩
      ∧ parseSensorFrame (frame1.set 2 2) = none ∧ parseSensorFrame (frame1.set 11 5) = none
      ∧ parseSensorFrame (frame1 ++ [0]) = none ∧ parseSensorFrame (frame1.set 14 0x40) = none
      ∧ parseSensorFrame (frame1.set 18 0) = none := by decide

theorem test_witness_SensorFrameTaken :
    parseSensorFrame [] = none ∧ (parseSensorFrame frame1).isSome = true
      ∧ (active .ready [rec1 .active] (some (job1 .visit .look))).takes (job1 .visit .look) = true
      ∧ (active .ready [rec1 .active] (some (job1 .visit .look))).lastFrame ≠ some 7
      ∧ ({ State.reset with lastFrame := some 7 } : State).lastFrame = some 7
      ∧ (active .ready [rec1 .active] (some dwell1)).takes dwell1 = false := by decide

/-- Two spots in their order, a BLINDED frame, and a job for each row of FIGURE 62. -/
theorem test_witness_FrameVerdict :
    distance ⟨0, 0⟩ ⟨100, 0⟩ ≤ distance ⟨0, 0⟩ ⟨16775916, 0⟩
      ∧ (⟨7, true, ⟨0, 0⟩, []⟩ : SensorFrame).blinded = true ∧ (searching1 .taking).search = some (search1 .taking)
      ∧ ({ job1 .visit .confirm with reference := some ⟨0, vLow⟩ } : JobContext).reference = some ⟨0, vLow⟩
      ∧ (job1 .visit .confirm).reference = none ∧ (job1 .visit .confirm).kind = .visit
      ∧ (job1 .track .coast).target = some 1 ∧ (tracked false []).find 1 = some (mov1 .active) := by decide

/-- The Hz difference at half a turn, on both sides of it, and through 0 (R1). -/
theorem test_hz_difference :
    signedHz 8388608 = -8388608 ∧ signedHz 8388607 = 8388607 ∧ signedHz (-8388609) = 8388607
      ∧ hzDiff ⟨16777215, 0⟩ ⟨1, 0⟩ = 2 ∧ distance ⟨16777215, 10⟩ ⟨1, 3⟩ = 7 := by decide

theorem test_witness_VisitVerdicts :
    (job1 .visit .look).phase = .look ∧ 1 < (job1 .visit .look).config.confirmFrames
      ∧ (job1 .visit .look).lookCount + 1 < (job1 .visit .look).config.lookFrames
      ∧ (job1 .visit .look).config.lookFrames ≤ ({ job1 .visit .look with lookCount := 24 } : JobContext).lookCount + 1
      ∧ (job1 .visit .look).config.confirmFrames
          ≤ ({ job1 .visit .look with ambiguousCount := 2 } : JobContext).ambiguousCount + 1
      ∧ (job1 .visit .look).kind = .visit ∧ 0 < (job1 .visit .look).dwell
      ∧ distance (job1 .visit .look).aim ⟨3000, 4194304⟩ ≤ max (job1 .visit .look).tolerance (job1 .visit .look).gate
      ∧ max (job1 .visit .look).tolerance (job1 .visit .look).gate < distance (job1 .visit .look).aim ⟨3001, 4194304⟩ := by
  decide

/-- A CONFIRM with its sums from each origin, before and at its last frame. -/
def confirm1 (origin : Origin) (count : Nat) : JobContext :=
  { job1 .visit .confirm with
    confirmCount := count, sums := some ⟨⟨0, 4194304⟩, 0, 4194304, 500⟩, origin := some origin }

/-- A CONFIRM, a probe with frames left and at its last one, a dwell of 0, and AMBIGUOUS ends of both kinds. -/
theorem test_witness_ConfirmAndProbe :
    (confirm1 .look 1).sums = some ⟨⟨0, 4194304⟩, 0, 4194304, 500⟩
      ∧ (confirm1 .look 1).confirmCount + 1 < (confirm1 .look 1).config.confirmFrames
      ∧ (confirm1 .search 2).config.confirmFrames ≤ (confirm1 .search 2).confirmCount + 1
      ∧ (confirm1 .look 1).origin = some .look ∧ (confirm1 .search 2).origin = some .search
      ∧ (search1 .taking).frames + 1 < (search1 .taking).pattern.framesPerProbe
      ∧ (search1 .taking).pattern.framesPerProbe ≤ ({ search1 .taking with frames := 1 } : SearchState).frames + 1
      ∧ ({ job1 .visit .confirm with copies := none } : JobContext).dwell = 0
      ∧ StationOk (active .ready [rec1 .active] (some (confirm1 .look 1)))
      ∧ StationOk (active .ready [mov1 .active] (some (job1 .track .look)))
      ∧ (rec1 .active).fields = .static ⟨300, 60, 1000⟩ ∧ (mov1 .active).fields = .moving 2 :=
  ⟨rfl, by decide, by decide, rfl, rfl, by decide, by decide, rfl,
    stationOk_job _ (by decide) _ _ rfl rfl rfl rfl rfl (by decide) rfl rfl (by decide) (by decide),
    stationOk_job _ (by decide) _ _ rfl rfl rfl rfl rfl (by decide) rfl rfl (by decide) (by decide), rfl, rfl⟩

/-- A CONFIRM that enters TRACK, a frame in TRACK with a rate, one inside a SHADOW zone with the mark clear and set, the loss
filter below and at its count, a coast limit of 0 and above, and a run in COAST. -/
theorem test_witness_TrackAndCoast :
    (job1 .track .track).target = some 1
      ∧ (active .ready [mov1 .active] (some (job1 .track .confirm))).find 1 = some (mov1 .active)
      ∧ (active .ready [mov1 .active] (some (job1 .track .confirm))).drive.state = .ready
      ∧ ({ job1 .track .track with previous := some (⟨0, 4194304⟩, 5) } : JobContext).previous = some (⟨0, 4194304⟩, 5)
      ∧ (5 : SiteTime) ≠ State.reset.clock
      ∧ inZones (tracked false [zoneAll 1 .shadow]).zones .shadow ((mov1 .active).prediction 0) = true
      ∧ inZones (tracked true []).zones .shadow ((mov1 .active).prediction 0) = false
      ∧ (job1 .track .track).shadowMark = false ∧ 0 < (job1 .track .track).config.coastLimit
      ∧ ({ (job1 .track .track).config with coastLimit := 0 } : ConfigCopies).coastLimit = 0
      ∧ (job1 .track .track).emptyCount + 1 < (job1 .track .track).config.lossFrames
      ∧ (job1 .track .track).config.lossFrames ≤ ({ job1 .track .track with emptyCount := 4 } : JobContext).emptyCount + 1
      ∧ (job1 .track .coast).phase = .coast ∧ (job1 .track .coast).confirmCount + 1 < (job1 .track .coast).config.confirmFrames
      ∧ (job1 .track .coast).config.confirmFrames
          ≤ ({ job1 .track .coast with confirmCount := 2 } : JobContext).confirmCount + 1 := by
  decide

/-- The first matched frame of a stay in TRACK, and one at the time of the frame before. -/
theorem test_witness_firstTrackFrame :
    (job1 .track .track).previous = none
      ∧ (∀ d0 t0, (job1 .track .track).previous = some (d0, t0) → t0 = (tracked false []).clock)
      ∧ (∀ d0 t0, ({ job1 .track .track with previous := some (⟨5, 4194304⟩, 0) } : JobContext).previous = some (d0, t0) →
          t0 = (tracked false []).clock)
      ∧ steerTarget ⟨16777216, 8388608⟩ none = ⟨0, vHigh⟩
      ∧ steerTarget ⟨16777215, 4194304⟩ (some ⟨25, -25⟩) = ⟨0, 4194303⟩ := by
  refine ⟨rfl, ?_, ?_, by decide, by decide⟩
  · intro d0 t0 h
    simp [job1, newContext] at h
  · rintro d0 t0 ⟨⟩
    rfl

theorem test_witness_CountdownAndDeferralExpire :
    (active .ready [rec1 .waiting] none).find 1 = some (rec1 .waiting) ∧ (rec1 .waiting).countdown ≠ none
      ∧ (active .ready [] none).mode ≠ .parked ∧ (active .ready [] none).orient.state ≠ .disturbed
      ∧ State.reset.mode = .parked ∧ State.reset.find 1 = none
      ∧ ({ active .ready [rec1 .due] none with due := [{ entry1 with deferTimer := some 0 }] } : State).entryOf 1
          = some { entry1 with deferTimer := some 0 }
      ∧ State.reset.entryOf 1 = none := by decide

theorem test_witness_DwellAndHoldEnd :
    StationOk (active .ready [rec1 .active] (some dwell1)) ∧ dwell1.phase = .dwell ∧ dwell1.dwellLeft ≠ none
      ∧ dwell1.found = some found1 ∧ (active .ready [rec1 .active] (some dwell1)).find 1 = some (rec1 .active)
      ∧ (rec1 .active).fields = .static ⟨300, 60, 1000⟩ ∧ (pointJob .hold).holdLeft = some (.ms 500)
      ∧ (pointJob .hold).kind = .point ∧ (pointJob .hold).target = none ∧ (pointJob .hold).reason = .host
      ∧ OrientOk (active .ready [rec1 .active] (some dwell1)) :=
  ⟨stationOk_job _ (by decide) _ _ rfl rfl rfl rfl rfl (by decide) rfl rfl (fun _ => rfl) (by decide), rfl, by decide,
    rfl, rfl, rfl, rfl, rfl, rfl, rfl, by constructor <;> decide⟩

theorem test_witness_SearchLimitAndCoastEnd :
    StationOk (active .ready [rec1 .active] (some (searching1 .taking)))
      ∧ (searching1 .taking).phase = .search ∧ (searching1 .taking).search = some (search1 .taking)
      ∧ (searching1 .taking).searchLeft ≠ none ∧ (search1 .taking).stage ≠ .slewing ∧ (search1 .slewing).stage = .slewing
      ∧ ({ job1 .track .coast with coastLeft := some 0 } : JobContext).coastLeft ≠ none
      ∧ (active .steering [mov1 .active] (some (job1 .track .coast))).find 1 = some (mov1 .active)
      ∧ State.reset.patterns[(job1 .track .coast).patternNumber]? = some Pattern.grid
      ∧ vInLimits (Dir.add ((mov1 .active).prediction 0) Pattern.grid.start).v = true
      ∧ inZones [] .shadow (Dir.add ((mov1 .active).prediction 0) Pattern.grid.start) = false
      ∧ inZones [zoneAll 1 .shadow] .shadow (Dir.add ((mov1 .active).prediction 0) Pattern.grid.start) = true :=
  ⟨stationOk_job _ (by decide) _ _ rfl rfl rfl rfl rfl (by decide) rfl rfl (by decide) (by decide), rfl, rfl, by decide,
    by decide, rfl, by decide, rfl, by decide, by decide, by decide, by decide⟩

theorem test_witness_QuantumYields :
    StationOk (active .steering [mov1 .active] (some { job1 .track .track with quantumLeft := some 0 }))
      ∧ (job1 .track .track).phase = .track
      ∧ (∀ e ∈ (active .steering [mov1 .active] (some (job1 .track .track))).due, e.level = 1 → False)
      ∧ ({ active .steering [mov1 .active, { rec1 .due with slot := 1, id := 2 }] (some (job1 .track .track)) with
          due := [{ entry1 with work := .visit 2 }] } : State).yields (job1 .track .track) = true :=
  ⟨stationOk_job _ (by decide) _ _ rfl rfl rfl rfl rfl (by decide) rfl rfl (by decide) (by decide), rfl, by decide,
    by decide⟩

/-- Blocked decisions, each choice, a shadowed entry and one that is not, and a decision whose context ends at its resume. -/
theorem test_witness_StartDecisionChooses :
    State.reset.mode = .parked ∧ (oriented .disturbed 0 0).orient.state = .disturbed
      ∧ (State.reset.due.map (·.level)).Pairwise (· ≥ ·) ∧ State.reset.choose = .nothing
      ∧ (active .ready [] none).mode ≠ .parked ∧ (active .ready [] none).orient.state ≠ .disturbed
      ∧ ({ active .ready [rec1 .due] none with due := [entry1] } : State).choose = .entry entry1
      ∧ ({ active .ready [] none with slots := ⟨none, some (job1 .visit .look), none⟩ } : State).choose = .slot 1
      ∧ ({ active .ready [rec1 .due] none with due := [entry1], zones := [zoneAll 1 .shadow] } : State).entryShadowed entry1
          = true
      ∧ (active .ready [rec1 .due] none).entryShadowed entry1 = false
      ∧ (({ active .ready [rec1 .suspended] none with
            slots := ⟨none, some (job1 .visit .look), none⟩
            zones := [zoneAll 1 .shadow] } : State).resumeSlot 1).job = none := by
  decide

/-- An eligible entry, and for each of R54's five conditions one that fails it; the aim of each kind. -/
theorem test_witness_eligibility :
    let s : State := { active .ready [rec1 .due] none with due := [entry1] }
    s.eligible entry1 = true ∧ ({ s with mode := .doze } : State).eligible entry1 = true
      ∧ ({ s with mode := .parked } : State).eligible entry1 = false
      ∧ ({ s with drive := driveIn .fault } : State).eligible entry1 = false
      ∧ ({ s with orient := (oriented .disturbed 0 0).orient } : State).eligible entry1 = false
      ∧ ({ s with orient := (oriented .reorienting 0 0).orient } : State).eligible entry1 = false
      ∧ ({ s with zones := [zoneAll 1 .shadow] } : State).eligible entry1 = false
      ∧ (∃ z ∈ [zoneAll 1 .shadow], z.kind = .shadow ∧ z.contains ⟨((rec1 .due).expected.hz + 0) % turn, (rec1 .due).expected.v⟩)
      ∧ entry1.work = .visit 1 ∧ s.find 1 = some (rec1 .due) ∧ (tracked false []).find 1 = some (mov1 .active)
      ∧ ({ s with zones := [zoneAll 1 .shadow] } : State).entryShadowed { entry1 with work := .point ⟨0, 4194304⟩ 5 } = false := by
  decide

/-- Entries of each kind with their records; contexts in a slot, in SEARCH and outside it, with the search limit run out and
not; a POINT in a slot. -/
theorem test_witness_JobsStartAndResume :
    (active .rest [rec1 .due] none).find 1 = some (rec1 .due) ∧ entry1.work = .visit 1
      ∧ (active .rest [mov1 .due] none).find 1 = some (mov1 .due)
      ∧ (⟨none, some (job1 .visit .look), none⟩ : Slots).get 1 = some (job1 .visit .look)
      ∧ (job1 .visit .look).target = some 1 ∧ (job1 .track .coast).kind = .track
      ∧ (searching1 .taking).search = some (search1 .taking) ∧ (search1 .taking).limitOut = false
      ∧ ({ search1 .taking with limitOut := true } : SearchState).limitOut = true
      ∧ (pointJob .hold).kind = .point ∧ (pointJob .hold).target = none
      ∧ inZones [zoneAll 1 .shadow] .shadow ⟨0, 4194304⟩ = true ∧ inZones [] .shadow ⟨0, 4194304⟩ = false := by decide

/-- A job of level 1 with an eligible entry of level 3 above it, and the job in each kind of phase. -/
def contested (phase : Phase) : State :=
  { active .ready [rec1 .active, { rec1 .due with slot := 1, id := 2 }] (some (job1 .visit phase)) with
    due := [{ entry1 with work := .visit 2, level := 3 }] }

theorem test_witness_PreemptionByPhase :
    (contested .look).outranked 1 = true ∧ (contested .look).preempt = false ∧ dwell1.found = some found1
      ∧ (active .ready [rec1 .active] (some (job1 .visit .confirm))).outranked 1 = false
      ∧ StationOk (contested .look) := by
  refine ⟨by decide, rfl, rfl, by decide, ?_⟩
  refine stationOk_of _ (by decide) rfl rfl (by decide) (by decide) ?_ ?_
  · constructor <;> decide
  · constructor <;> simp [contested, active, State.reset, State.jobIsFor, State.slotIsFor, State.entryOf,
      Slots.contexts, State.contextLinked, State.entryLinked, State.kindIs, State.find, State.pointCount,
      State.pointInFlight, JobContext.phaseOfKind, rec1, job1, entry1, addedRecord, addedFields, fields, newContext,
      Work.target, ClassFields.cls]

/-- A mark whose job is still in CONFIRM, one whose job has left it, and the follow-up without a job. -/
theorem test_witness_followUp :
    ({ contested .confirm with preempt := true } : State).job = some (job1 .visit .confirm)
      ∧ (job1 .visit .confirm).phase = .confirm ∧ (job1 .visit .dwell).phase ≠ .confirm
      ∧ ({ contested .look with preempt := true } : State).preempt = true
      ∧ ({ contested .dwell with preempt := true, job := some dwell1 } : State).followUp.job.map (·.level) = some 3
      ∧ State.reset.job = none := by decide

theorem test_witness_StationStaysOk :
    StationOk State.reset ∧ CountdownsOk State.reset ∧ step State.reset = .next State.reset.tick := by
  refine ⟨stationOk_reset, ?_, rfl⟩
  constructor <;> decide

theorem test_witness_otherInvariants :
    CountdownsOk State.reset ∧ (∀ r ∈ State.reset.records, RecordOk r) ∧ RestOk State.reset ∧ DutyOk State.reset
      ∧ OrientOk State.reset := by
  refine ⟨?_, by simp [State.reset], ⟨?_, by decide, by decide⟩, ?_, ?_⟩
  · constructor <;> decide
  · constructor <;> decide
  · constructor <;> simp [State.reset, Drive.reset, Slots.contexts]
  · constructor <;> decide

theorem test_witness_EventsKeepHostFields : ∃ axis, Instr.readyReport .hz = .readyReport axis := ⟨.hz, rfl⟩

/-! ## Single steps -/

theorem test_word_spells_nothing : decodeTableWord 8 0 = none := rfl

theorem test_add_starts_visit :
    ∃ t, exec (.targetAdd 1 1 0 fields) (active .rest [] none) = .next t ∧ t.drive.state = .waking
      ∧ t.axisOut = [.rest .hz, .rest .v, .energize .hz, .energize .v] ∧ t.sensorOn = true := by
  refine ⟨_, rfl, ?_⟩
  decide

theorem test_frame_confirms :
    ∃ t, exec (.sensorFrame frame1) (active .ready [rec1 .active] (some (job1 .visit .look))) = .next t
      ∧ (t.job.map (·.phase)) = some .confirm ∧ t.lastFrame = some 7 := by
  refine ⟨_, rfl, ?_⟩
  decide

/-- A VISIT resumed in SEARCH has its aim formed with the offset in force, and its look count is 0 (R73, R77, R182). -/
theorem test_resume_in_search_aims_afresh :
    let s : State := { active .ready [rec1 .suspended] none with
      orient := { Orientation.reset with offset := 5 }
      slots := ⟨none, some { searching1 .taking with lookCount := 9 }, none⟩ }
    ((s.resumeSlot 1).job.map fun c => (c.aim, c.lookCount)) = some (⟨5, 4194304⟩, 0) := by
  decide

/-- A suspended COAST keeps its run (R70, R133). -/
theorem test_suspended_keeps_run :
    (({ job1 .track .coast with confirmCount := 2, coastLeft := some 7 } : JobContext).suspended).confirmCount = 2
      ∧ (({ job1 .track .coast with confirmCount := 2, coastLeft := some 7 } : JobContext).suspended).coastLeft = none := by
  decide

/-- A search that is over keeps its frame count through a suspension in TRACK (R107); one suspended in SEARCH drops it (R110). -/
theorem test_suspended_keeps_search :
    let counted : JobContext := { job1 .track .track with search := some { search1 .taking with frames := 2 } }
    counted.suspended.search = some { search1 .taking with frames := 2 }
      ∧ ({ counted with phase := .search } : JobContext).suspended.search = some { search1 .taking with frames := 0 } := by
  decide

/-- A REORIENT job left over by ORIENT SET is aborted in the next reorientation: its entry ends SCHEDULE at its own level, and
the reorientation, left without work, ends with an empty tally (R178, R179). -/
theorem test_left_over_returns :
    let c : JobContext := { job1 .visit .look with reason := .reorient, level := 3, leftOver := true }
    let s : State := { active .ready [ref1 .active] (some c) with orient := (oriented .reorienting 0 0).orient }
    let t := s.finishJob .superseded
    t.due.map (fun e => (e.level, e.reason)) = [(1, .schedule)] ∧ t.orient.state = .unoriented := by
  decide

/-- The confirm count of 3 stands in DWELL (R70, FIGURE 47 step 8). -/
theorem test_dwell_keeps_confirm_count :
    (((active .ready [rec1 .active] (some (confirm1 .look 3))).evaluate (confirm1 .look 3) ⟨0, 4194304⟩ 500).job.map
      fun c => (c.phase, c.confirmCount, c.sums)) = some (.dwell, 3, none) := by decide

/-- A SHADOW zone set away from the prediction, with the prediction inside another one: the mark is set (FIGURE 71). -/
theorem test_mark_set_at_zone_change :
    let s : State := tracked false [zoneAll 1 .shadow, zoneAway 2]
    s.testAgainstZone (zoneAway 2) = s ∧ s.testShadowMark.job.map (·.shadowMark) = some true := by decide

/-- A coast that ends with every probe of its pattern inside a SHADOW zone: the search is over at once (R104). -/
theorem test_coast_ends_in_zone :
    let c : JobContext := { job1 .track .coast with coastLeft := some 0 }
    (({ active .steering [mov1 .active] (some c) with zones := [zoneAll 1 .shadow] } : State).coastExpires c).job = none := by
  decide

/-- A POLL changes nothing and gets the status byte (FIGURE 97). -/
theorem test_poll : State.reset.transact 0x00 [4, 0] 3 false = { State.reset with spiOut := [1] } := by decide

end Sys2Proof.Tests
end

section
/-!
PROOFS. The requests on target records (spec 01): TARGET RESUME, CLEAR FLAGS and CHANGED LIST.
-/

namespace Sys2Proof.Machine

/-! ## Requests taken, and the record they name (R4, R186) -/

/-- With no request in hand, the row of a request is its owner's act and answer. -/
theorem exec_request_idle (i : Instr) {tag : Byte} {act : State → Answer} {s : State}
    (hi : requestAct i = some (tag, act)) (hp : s.port.inHand = none) :
    exec i s = .next ((act s).1.answered tag (act s).2.1 (act s).2.2) := by
  rw [exec_request i tag act s hi, takeRequest_idle s tag act hp]

theorem validTargetId_iff {id : Nat} : validTargetId id = true ↔ 1 ≤ id ∧ id ≤ 65534 := by
  simp [validTargetId]

theorem onRecord_outOfRange {s : State} {id : Nat} (act : TargetRecord → Answer) (h : ¬ (1 ≤ id ∧ id ≤ 65534)) :
    s.onRecord id act = s.refuse .badField :=
  if_neg (mt validTargetId_iff.1 h)

theorem onRecord_unknown {s : State} {id : Nat} (act : TargetRecord → Answer) (h1 : 1 ≤ id) (h2 : id ≤ 65534)
    (hf : s.find id = none) : s.onRecord id act = s.refuse .notFound := by
  rw [State.onRecord, if_pos (validTargetId_iff.2 ⟨h1, h2⟩), hf]

theorem onRecord_found {s : State} {id : Nat} {r : TargetRecord} (act : TargetRecord → Answer) (h1 : 1 ≤ id)
    (h2 : id ≤ 65534) (hf : s.find id = some r) : s.onRecord id act = act r := by
  rw [State.onRecord, if_pos (validTargetId_iff.2 ⟨h1, h2⟩), hf]

/-! ## TARGET RESUME (R21) -/

/-- Becoming DUE is joining the level, for a record of the table (R10, R48). -/
theorem becomeDue_eq_joined {s : State} {id : Nat} {r : TargetRecord} (hf : s.find id = some r) (reason : Reason)
    (level : Nat) (given : Bool) : s.becomeDue id reason level given = s.joined r reason level given := by
  obtain rfl := find_id hf
  rw [State.becomeDue, hf]
  rfl

/-- Settles O21: the three refusals and the resume itself are the branches of onRecord and of the record's state. -/
theorem targetResumeMakesDue : Obligations.TargetResumeMakesDue := by
  intro tag id s hp
  have hexec := exec_request_idle (.targetResume tag id) rfl hp
  rw [reqTargetResume] at hexec
  refine ⟨fun hr => ?outOfRange, fun h1 h2 r hf hheld => ?held, fun h1 h2 r hf hheld => ?otherState,
    fun h1 h2 hf => ?unknown⟩
  case outOfRange => rw [hexec, onRecord_outOfRange _ hr]; rfl
  case held => rw [hexec, onRecord_found _ h1 h2 hf, if_pos hheld, becomeDue_eq_joined hf]; rfl
  case otherState => rw [hexec, onRecord_found _ h1 h2 hf, if_neg hheld]; rfl
  case unknown => rw [hexec, onRecord_unknown _ h1 h2 hf]; rfl

/-! ## CLEAR FLAGS (R30) -/

/-- A byte is below 64 exactly when its two highest bits are clear. -/
theorem byte_lt_64_iff (b : Byte) : b.toNat < 64 ↔ b.getLsbD 6 = false ∧ b.getLsbD 7 = false := by
  have hb : b.toNat < 256 := b.isLt
  simp only [BitVec.getLsbD, Nat.testBit_eq_decide_div_mod_eq, decide_eq_false_iff_not]
  omega

/-- The subsets that CLEAR FLAGS takes hold neither DEFERRED nor NEWS nor a bit without a flag (R30, R194). -/
theorem namesFixedFlag_eq_false_iff (b : Byte) :
    namesFixedFlag b = false ↔ b.toNat < 64 ∧ b.getLsbD 2 = false ∧ b.getLsbD 5 = false := by
  rw [byte_lt_64_iff, namesFixedFlag]
  simp only [Bool.or_eq_false_iff]
  tauto

/-- Settles O22: the subset is checked first, then the id and its record (log 30). -/
theorem clearFlagsClearsNamed : Obligations.ClearFlagsClearsNamed := by
  intro tag id b s hp nameable
  have hexec := exec_request_idle (.clearFlags tag id b) rfl hp
  have hsubset : namesFixedFlag b = false ↔ nameable := namesFixedFlag_eq_false_iff b
  have hrefused (hn : ¬ nameable) : reqClearFlags id b s = s.refuse .badField :=
    if_pos (by simpa using mt hsubset.1 hn)
  have htaken (hn : nameable) : reqClearFlags id b s
      = s.onRecord id fun _ => (s.modify id fun r => r.withFlags fun f => f.clearNamed b).accept [] :=
    if_neg (by simp [hsubset.2 hn])
  refine ⟨fun hr => ?outOfRange, fun hn _ _ _ _ => ?fixedFlag, fun hn h1 h2 r hf => ?found, fun hn h1 h2 hf => ?unknown⟩
  case outOfRange =>
    by_cases hn : nameable
    · rw [hexec, htaken hn, onRecord_outOfRange _ hr]; rfl
    · rw [hexec, hrefused hn]; rfl
  case fixedFlag => rw [hexec, hrefused hn]; rfl
  case found => rw [hexec, htaken hn, onRecord_found _ h1 h2 hf]; rfl
  case unknown => rw [hexec, htaken hn, onRecord_unknown _ h1 h2 hf]; rfl

/-! ## CHANGED LIST (R29) -/

/-- Where the keys of a list are all different, one of them is missing from the first n exactly when the list is longer. -/
theorem exists_key_not_mem_take_iff {α β : Type} (key : α → β) (l : List α) (n : Nat) (hd : (l.map key).Nodup) :
    (∃ x ∈ l, key x ∉ (l.take n).map key) ↔ n < l.length := by
  constructor
  · rintro ⟨x, hx, hout⟩
    by_contra hle
    rw [List.take_of_length_le (Nat.le_of_not_lt hle)] at hout
    exact hout (List.mem_map_of_mem hx)
  · intro hlt
    refine ⟨l[n], List.getElem_mem hlt, fun hin => ?_⟩
    have hdrop : key l[n] ∈ (l.map key).drop n := by
      rw [← List.map_drop, List.drop_eq_getElem_cons hlt]
      exact List.mem_cons_self
    rw [List.map_take] at hin
    exact List.disjoint_take_drop hd le_rfl hin hdrop

/-- Which records have their NEWS cleared. -/
theorem clearNews_eq (s : State) (ids : List Nat) :
    s.clearNews ids = { s with
      records := s.records.map fun r =>
        if r.id ∈ ids then { r with flags := { r.flags with news := false } } else r } := by
  simp only [State.clearNews, List.contains_iff_mem]
  rfl

/-- Some record still has NEWS after the clearing exactly when one with NEWS was not listed. -/
theorem any_news_clearNews (s : State) (ids : List Nat) :
    (s.clearNews ids).records.any (fun r => r.flags.news) = true
      ↔ ∃ r ∈ s.records.filter (fun r => r.flags.news), r.id ∉ ids := by
  have hnews (r : TargetRecord) :
      (if r.id ∈ ids then { r with flags := { r.flags with news := false } } else r).flags.news = true
        ↔ r.flags.news = true ∧ r.id ∉ ids := by
    by_cases h : r.id ∈ ids <;> simp [h]
  simp only [clearNews_eq, List.any_map, List.any_eq_true, Function.comp_apply, hnews, List.mem_filter, and_assoc]

/-- NEWS remains after CHANGED LIST exactly when more than 16 records had it. -/
theorem any_news_after_changedList (s : State) (hd : (s.records.map (·.id)).Nodup) :
    (s.clearNews s.changedIds).records.any (fun r => r.flags.news) = true
      ↔ 16 < (s.records.filter fun r => r.flags.news).length := by
  rw [any_news_clearNews]
  exact exists_key_not_mem_take_iff TargetRecord.id _ 16 (hd.sublist (List.filter_sublist.map _))

/-- Settles O23: the reply's last byte is the count of the records with NEWS against 16. -/
theorem changedListTakesNews : Obligations.ChangedListTakesNews := by
  intro tag s hp hd ids
  have hmark : markByte ((s.clearNews ids).records.any fun r => r.flags.news)
      = if 16 < (s.records.filter fun r => r.flags.news).length then 1 else 0 :=
    if_congr (any_news_after_changedList s hd) rfl rfl
  have hcount : beU 1 ids.length = [BitVec.ofNat 8 ids.length] := by simp [beU]
  calc exec (.changedList tag) s
      = .next ((s.clearNews ids).answered tag .ok (beU 1 ids.length ++ ids.flatMap (beU 2)
          ++ [markByte ((s.clearNews ids).records.any fun r => r.flags.news)])) :=
        exec_request_idle (.changedList tag) rfl hp
    _ = _ := by rw [hmark, hcount, clearNews_eq]; rfl

end Sys2Proof.Machine
end

section
/-!
PROOFS. The Site Clock's two requests (spec 02): CLOCK READ and CLOCK SET.
-/

namespace Sys2Proof.Machine

/-! ## A reply published later (R185) -/

/-- REPLY_PUBLISH with the port as an answer left it publishes that very reply, whatever else has changed since. -/
theorem exec_replyPublish_answered {s later : State} {tag : Byte} {status : Status} {body : List Byte}
    (h : later.port = (s.answered tag status body).port) :
    exec .replyPublish later = .next { later with port := ⟨none, some ⟨status, tag, body⟩, false⟩ } := by
  have hhand : later.port.inHand = some ⟨status, tag, body⟩ := congrArg Port.inHand h
  calc exec .replyPublish later
      = .next later.publish := rfl
    _ = _ := by rw [publish_busy later _ hhand]

/-! ## CLOCK READ and CLOCK SET (R43, R44) -/

/-- CLOCK READ answers the clock of the moment it is taken, and the port alone changes. -/
theorem exec_clockRead {tag : Byte} {s : State} (hp : s.port.inHand = none) :
    exec (.clockRead tag) s = .next (s.answered tag .ok (beU 4 s.clock.toNat)) :=
  exec_request_idle (.clockRead tag) rfl hp

/-- CLOCK SET loads the clock; beside it the port alone changes. -/
theorem exec_clockSet {tag : Byte} {time : SiteTime} {s : State} (hp : s.port.inHand = none) :
    exec (.clockSet tag time) s = .next (({ s with clock := time } : State).answered tag .ok []) :=
  exec_request_idle (.clockSet tag time) rfl hp

/-- The form of CLOCK SET is a body of 4 bytes (FIGURE 108). -/
theorem parseRequest_clockSet_badForm {tag : Byte} {body : List Byte} (h : body.length ≠ 4) :
    parseRequest 0x41 tag body = .badForm := by
  have hform : ¬ (body.length == 4) = true := by simpa using h
  exact if_neg hform

/-- Settles O13: the reply is formed when CLOCK READ is taken, so a later publishing holds the clock of that moment. -/
theorem clockReadAndSet : Obligations.ClockReadAndSet := by
  intro tag time s hp
  exact ⟨exec_clockRead hp, fun _ hport => exec_replyPublish_answered hport, exec_clockSet hp,
    fun _ hlen => parseRequest_clockSet_badForm hlen⟩

end Sys2Proof.Machine
end

section
/-!
PROOFS. The requests that read the Zone Table and the Pattern Store (specs 08 and 05): ZONE READ and PATTERN READ.
-/

namespace Sys2Proof.Machine

/-! ## The zone that a request names (R154, R156) -/

theorem validZoneId_iff {id : Nat} : validZoneId id = true ↔ 1 ≤ id ∧ id ≤ 255 := by
  simp [validZoneId]

theorem onZone_outOfRange {s : State} {id : Nat} (act : Zone → Answer) (h : ¬ (1 ≤ id ∧ id ≤ 255)) :
    s.onZone id act = s.refuse .badField :=
  if_neg (mt validZoneId_iff.1 h)

theorem onZone_absent {s : State} {id : Nat} (act : Zone → Answer) (h1 : 1 ≤ id) (h2 : id ≤ 255)
    (hf : s.findZone id = none) : s.onZone id act = s.refuse .notFound := by
  rw [State.onZone, if_pos (validZoneId_iff.2 ⟨h1, h2⟩), hf]

theorem onZone_found {s : State} {id : Nat} {z : Zone} (act : Zone → Answer) (h1 : 1 ≤ id) (h2 : id ≤ 255)
    (hf : s.findZone id = some z) : s.onZone id act = act z := by
  rw [State.onZone, if_pos (validZoneId_iff.2 ⟨h1, h2⟩), hf]

/-! ## ZONE READ (R156) -/

/-- The presence byte and the remaining lifetime that end the body of ZONE READ (FIGURE 108). -/
theorem zoneReadBody_eq (z : Zone) :
    zoneReadBody z = zoneBytes z ++ (match z.remaining with
      | none => [0, 0, 0, 0, 0]
      | some ms => 1 :: beU 4 ms) := by
  rw [zoneReadBody, List.append_assoc]
  cases z.remaining <;> rfl

/-! ## PATTERN READ (R99) -/

theorem pattern_eq_of_getElem? {s : State} {n : Nat} {p : Pattern} (h : s.patterns[n]? = some p) : s.pattern n = p := by
  rw [State.pattern, List.getD_eq_getElem?_getD, h, Option.getD_some]

theorem reqPatternRead_outOfRange {n : Nat} (s : State) (h : 7 < n) : reqPatternRead n s = s.refuse .badField :=
  if_neg (Nat.not_lt.2 h)

/-- A number that the whole store of 8 holds is in range, and its record is answered. -/
theorem reqPatternRead_found {s : State} {n : Nat} {p : Pattern} (hlen : s.patterns.length = 8)
    (h : s.patterns[n]? = some p) : reqPatternRead n s = s.accept (patternBody n p) := by
  have hn : n < Config.patternCount := (List.getElem?_eq_some_iff.1 h).1.trans_eq hlen
  rw [reqPatternRead, if_pos hn, pattern_eq_of_getElem? h]

/-- The body of PATTERN READ with the components of its four offsets in one row (FIGURE 108). -/
theorem patternBody_eq (n : Nat) (p : Pattern) :
    patternBody n p = beU 1 n ++ [p.mode.code] ++ beU 1 p.innerCount ++ beU 1 p.middleCount ++ beU 1 p.outerCount
      ++ beS 4 p.innerStep.hz ++ beS 4 p.innerStep.v ++ beS 4 p.middleStep.hz ++ beS 4 p.middleStep.v
      ++ beS 4 p.outerStep.hz ++ beS 4 p.outerStep.v ++ beS 4 p.start.hz ++ beS 4 p.start.v
      ++ beU 1 p.framesPerProbe ++ [p.ending.code] := by
  simp only [patternBody, offsetBytes, List.append_assoc]

/-- Settles O28: each request's refusals are the branches of its lookup, and what it answers is its reply body. -/
theorem zoneAndPatternRead : Obligations.ZoneAndPatternRead := by
  refine ⟨fun tag id s hp => ?zone, fun tag n s hp hlen => ?pattern, rfl, rfl, rfl⟩
  case zone =>
    have hexec := exec_request_idle (.zoneRead tag id) rfl hp
    rw [reqZoneRead] at hexec
    refine ⟨fun hr => ?outOfRange, fun h1 h2 hf => ?absent, fun z h1 h2 hf => ?found⟩
    case outOfRange => rw [hexec, onZone_outOfRange _ hr]; rfl
    case absent => rw [hexec, onZone_absent _ h1 h2 hf]; rfl
    case found => rw [hexec, onZone_found _ h1 h2 hf, zoneReadBody_eq]; rfl
  case pattern =>
    have hexec := exec_request_idle (.patternRead tag n) rfl hp
    refine ⟨fun hr => ?outOfRange, fun p h => ?found⟩
    case outOfRange => rw [hexec, reqPatternRead_outOfRange s hr]; rfl
    case found => rw [hexec, reqPatternRead_found hlen h, patternBody_eq]; rfl

end Sys2Proof.Machine
end

section
/-!
PROOFS. IDENTIFY (spec 11, R187) and the three requests of the Attention Unit with ATTN# (R191, R192).
-/

namespace Sys2Proof.Machine

/-! ## IDENTIFY (R187) -/

/-- FIGURE 100 as a chain of cases over the item. -/
theorem identifyValue_eq (item : Nat) :
    identifyValue item = if item = 0 then 0x2240 else if item = 1 then 3 else if item = 2 then 48 else if item = 3 then 12
      else if item = 4 then 8 else if item = 5 then 4 else if item = 6 then 4 else 0 := by
  match item with
  | 0 => rfl
  | 1 => rfl
  | 2 => rfl
  | 3 => rfl
  | 4 => rfl
  | 5 => rfl
  | 6 => rfl
  | n + 7 => simp [identifyValue]

/-- Settles O9: the request is taken, and its value is FIGURE 100's. -/
theorem identifyAnswersItem : Obligations.IdentifyAnswersItem := by
  intro tag item s hp
  rw [← identifyValue_eq]
  exact exec_request_idle (.identify tag item) rfl hp

/-! ## The byte of the flags or mask bits (R193) -/

/-- A byte holds at most 8 of the bits it is made of, each at its place. -/
theorem getLsbD_byteOfBits (bits : List Bool) (k : Nat) :
    (byteOfBits bits).getLsbD k = (decide (k < 8) && bits.getD k false) := by
  induction bits generalizing k with
  | nil => simp [byteOfBits]
  | cons b bs ih =>
    have hstep : byteOfBits (b :: bs) = (byteOfBits bs <<< 1) ||| (if b then 1 else 0) := rfl
    cases k with
    | zero => cases b <;> simp [hstep]
    | succ k =>
      have hbit : (if b then 1 else 0 : Byte).getLsbD (k + 1) = false := by cases b <;> simp
      rw [hstep, BitVec.getLsbD_or, hbit, BitVec.getLsbD_shiftLeft, Nat.add_sub_cancel, ih]
      by_cases hk : k + 1 < 8
      · simp [hk, Nat.lt_of_succ_lt hk]
      · simp [hk]

/-- Reading back the byte of the eight flags gives the flags. -/
theorem ofByte_toByte (a : Attention) : Attention.ofByte a.toByte = a := by
  simp only [Attention.ofByte, Attention.toByte, getLsbD_byteOfBits]
  rfl

/-! ## The requests of the Attention Unit (R192) and ATTN# (R191) -/

theorem exec_attentionRead {tag : Byte} {s : State} (hp : s.port.inHand = none) :
    exec (.attentionRead tag) s = .next (s.answered tag .ok [s.flags.toByte, s.mask.toByte]) :=
  exec_request_idle (.attentionRead tag) rfl hp

theorem exec_attentionClear {tag b : Byte} {s : State} (hp : s.port.inHand = none) :
    exec (.attentionClear tag b) s
      = .next (({ s with flags := s.flags.clear (Attention.ofByte b) } : State).answered tag .ok []) :=
  exec_request_idle (.attentionClear tag b) rfl hp

theorem exec_attentionMask {tag b : Byte} {s : State} (hp : s.port.inHand = none) :
    exec (.attentionMask tag b) s = .next (({ s with mask := Attention.ofByte b } : State).answered tag .ok []) :=
  exec_request_idle (.attentionMask tag b) rfl hp

/-- ATTN# flag by flag, in the order of FIGURE 103. -/
theorem attn_eq (s : State) :
    s.attn = ((s.flags.news && s.mask.news) || (s.flags.displacement && s.mask.displacement)
      || (s.flags.lost && s.mask.lost) || (s.flags.overdue && s.mask.overdue) || (s.flags.drive && s.mask.drive)
      || (s.flags.level && s.mask.level) || (s.flags.orient && s.mask.orient) || (s.flags.zone && s.mask.zone)) := by
  simp [State.attn, Attention.toBits, Bool.or_assoc]

end Sys2Proof.Machine
end

section
/-!
PROOFS. Which attention flags an event leaves set (spec 11, R191): State.HasFlags, and for every operation that an event is
made of, that no flag is lost in it. Only ATTENTION CLEAR, CLEAR STATION, POWER_ON and a WRITE lie outside.
-/

namespace Sys2Proof.Machine

/-! ## Flags that are set -/

/-- Every flag of F is set. -/
def State.HasFlags (s : State) (F : Attention) : Prop := F.within s.flags

variable {s t : State} {F : Attention}

theorem State.hasFlags_flags (s : State) : s.HasFlags s.flags := by simp [State.HasFlags, Attention.within]

namespace State.HasFlags

/-- An event that sets flags and clears none keeps what was set. -/
theorem grow (h : s.HasFlags F) (hst : s.flags.within t.flags) : t.HasFlags F := by
  obtain ⟨n, d, l, o, r, v, u, z⟩ := h
  obtain ⟨n', d', l', o', r', v', u', z'⟩ := hst
  exact ⟨n' ∘ n, d' ∘ d, l' ∘ l, o' ∘ o, r' ∘ r, v' ∘ v, u' ∘ u, z' ∘ z⟩

/-! ## Named updates -/

theorem withRecords {x} (h : s.HasFlags F) : (s.withRecords x).HasFlags F := h
theorem withDue {x} (h : s.HasFlags F) : (s.withDue x).HasFlags F := h
theorem withSlots {x} (h : s.HasFlags F) : (s.withSlots x).HasFlags F := h
theorem withJob {x} (h : s.HasFlags F) : (s.withJob x).HasFlags F := h
theorem withPreempt {x} (h : s.HasFlags F) : (s.withPreempt x).HasFlags F := h
theorem withDrive {x} (h : s.HasFlags F) : (s.withDrive x).HasFlags F := h
theorem withOrient {x} (h : s.HasFlags F) : (s.withOrient x).HasFlags F := h
theorem withZones {x} (h : s.HasFlags F) : (s.withZones x).HasFlags F := h
theorem sendAxis {x} (h : s.HasFlags F) : (s.sendAxis x).HasFlags F := h
theorem modify {id f} (h : s.HasFlags F) : (s.modify id f).HasFlags F := h

/-- A flag that an event sets (R191). -/
theorem withFlags {x} (h : s.HasFlags F) (hx : s.flags.within x := by simp [Attention.within]) :
    (s.withFlags x).HasFlags F := h.grow hx

/-- Folding an operation that keeps the flags. -/
theorem foldl {f : State → Nat → State} (hf : ∀ {s : State} {id}, s.HasFlags F → (f s id).HasFlags F) (l : List Nat)
    (h : s.HasFlags F) : (l.foldl f s).HasFlags F := by
  induction l generalizing s with
  | nil => exact h
  | cons x xs ih => exact ih (hf h)

/-- A choice between two states that both keep the flags. -/
theorem ite {p : Prop} [Decidable p] (hs : s.HasFlags F) (ht : t.HasFlags F) : (if p then s else t).HasFlags F := by
  split
  · exact hs
  · exact ht

theorem setNews {id} (h : s.HasFlags F) : (s.setNews id).HasFlags F := ite (h.grow (by simp [Attention.within])) h

theorem setNewsIf {b id} (h : s.HasFlags F) : (s.setNewsIf b id).HasFlags F := ite h.setNews h

/-! ## Entries, sensor and drive -/

theorem becomeDue {id reason level given} (h : s.HasFlags F) : (s.becomeDue id reason level given).HasFlags F := by
  unfold State.becomeDue; split <;> exact h

theorem moveEntry {id reason level given joined} (h : s.HasFlags F) :
    (s.moveEntry id reason level given joined).HasFlags F := by
  unfold State.moveEntry; split <;> exact h

theorem sensorSwitchOn (h : s.HasFlags F) : s.sensorSwitchOn.HasFlags F := ite h h
theorem sensorSwitchOff (h : s.HasFlags F) : s.sensorSwitchOff.HasFlags F := ite h h
theorem moveBoth {d} (h : s.HasFlags F) : (s.moveBoth d).HasFlags F := h
theorem energize (h : s.HasFlags F) : s.energize.HasFlags F := h
theorem slewTo {d n} (h : s.HasFlags F) : (s.slewTo d n).HasFlags F := h

theorem requestMove {d n} (h : s.HasFlags F) : (s.requestMove d n).HasFlags F := by
  unfold State.requestMove
  split
  · exact h.energize
  · exact h
  · exact ite h.slewTo h
  · exact ite h.slewTo h
  · exact h
  · exact h

theorem parkSlew (h : s.HasFlags F) : s.parkSlew.HasFlags F := h
theorem parkIfPending (h : s.HasFlags F) : s.parkIfPending.HasFlags F := ite h.parkSlew h
theorem restDrive (h : s.HasFlags F) : s.restDrive.HasFlags F := h

theorem stopRequest (h : s.HasFlags F) : s.stopRequest.HasFlags F := by
  unfold State.stopRequest
  split
  · exact h.withDrive.sendAxis.parkIfPending
  · exact h.withDrive.sendAxis.parkIfPending
  all_goals exact h

theorem steeringBegins (h : s.HasFlags F) : s.steeringBegins.HasFlags F := by
  unfold State.steeringBegins; split <;> exact h

theorem steeringEnds (h : s.HasFlags F) : s.steeringEnds.HasFlags F := ite h h

theorem settleDoze (h : s.HasFlags F) : s.settleDoze.HasFlags F := ite (ite h (ite h.restDrive h)) h

/-! ## Outcomes and ends -/

theorem writeLastEnd {id e} (h : s.HasFlags F) : (s.writeLastEnd id e).HasFlags F := h

theorem applyFound {c id f} (h : s.HasFlags F) : (s.applyFound c id f).HasFlags F := by
  unfold State.applyFound
  split
  · exact h
  · exact ite h.modify.setNewsIf.withFlags h.modify.setNewsIf

theorem becomeLost {id} (h : s.HasFlags F) : (s.becomeLost id).HasFlags F := h.modify.withFlags

theorem applyAmbiguous {id} (h : s.HasFlags F) : (s.applyAmbiguous id).HasFlags F := by
  unfold State.applyAmbiguous
  split
  · exact h
  · refine setNews ?_
    split
    · exact h.modify.modify
    · exact h.modify.modify
    · exact h.modify.becomeLost

theorem applyNotFound {id} (h : s.HasFlags F) : (s.applyNotFound id).HasFlags F := ite h.modify.becomeLost.setNews h

theorem rejoin {id reason} (h : s.HasFlags F) : (s.rejoin id reason).HasFlags F := by
  unfold State.rejoin
  split
  · exact h
  · exact h.becomeDue

theorem applyOutcome {c e} (h : s.HasFlags F) : (s.applyOutcome c e).HasFlags F := by
  unfold State.applyOutcome
  split
  · exact h
  · cases e with
    | confirmed | displaced =>
      dsimp only
      split
      · exact h.writeLastEnd.applyFound
      · exact h.writeLastEnd
    | ambiguous => exact h.writeLastEnd.applyAmbiguous
    | notFound => exact h.writeLastEnd.applyNotFound
    | yielded | superseded | shadowed | disturbed | parked | driveFault => exact h.writeLastEnd.rejoin
    | held => exact h.writeLastEnd.modify
    | retired | cleared | released | expired | replaced => exact h.writeLastEnd

theorem axesAtEnd {e} (h : s.HasFlags F) : (s.axesAtEnd e).HasFlags F := by
  cases e with
  | retired | held | superseded | shadowed | parked | cleared => exact h.stopRequest
  | yielded => exact h.steeringEnds
  | confirmed | displaced | ambiguous | notFound | released | expired | replaced | disturbed | driveFault => exact h

theorem handToTally {c} (h : s.HasFlags F) : (s.handToTally c).HasFlags F := by
  unfold State.handToTally
  split
  · split
    · exact h
    · exact ite h.withOrient h
  · exact h

theorem endJob {e} (h : s.HasFlags F) : (s.endJob e).HasFlags F := by
  unfold State.endJob
  split
  · exact h
  next c _ =>
    have applied : ((((s.withJob none).withPreempt false).axesAtEnd e).applyOutcome c e).HasFlags F :=
      h.withJob.withPreempt.axesAtEnd.applyOutcome
    dsimp only
    split
    · exact applied.handToTally
    · exact applied.handToTally
    · exact applied

theorem enterOrient {st} (h : s.HasFlags F) : (s.enterOrient st).HasFlags F := h

theorem returnEntry {id} (h : s.HasFlags F) : (s.returnEntry id).HasFlags F := by
  unfold State.returnEntry
  split
  · exact h
  · exact h.moveEntry

theorem returnReorient (h : s.HasFlags F) : s.returnReorient.HasFlags F := h.foldl returnEntry _
theorem leaveBehind (h : s.HasFlags F) : s.leaveBehind.HasFlags F := h

theorem returnLeftOver {o} (h : s.HasFlags F) : (s.returnLeftOver o).HasFlags F := by
  unfold State.returnLeftOver
  split
  · exact h
  · exact h.returnEntry

theorem returnAfter {o} (h : s.HasFlags F) : (s.returnAfter o).HasFlags F := ite h.returnLeftOver h.returnReorient

theorem judgeTally (h : s.HasFlags F) : s.judgeTally.HasFlags F := by
  refine withFlags (ite (ite ?zero (foldl setNews _ ?shifted)) ?rejected)
  case zero => exact h.enterOrient.withOrient
  case shifted => exact h.enterOrient.withOrient
  case rejected => exact h.enterOrient.withOrient

theorem testReorient (h : s.HasFlags F) : s.testReorient.HasFlags F := ite h.judgeTally h

theorem finishJob {e} (h : s.HasFlags F) : (s.finishJob e).HasFlags F := by
  unfold State.finishJob
  split
  · exact h
  · exact ite h.endJob.returnAfter.testReorient h.endJob

theorem emptySlot {e k} (h : s.HasFlags F) : (s.emptySlot e k).HasFlags F := by
  unfold State.emptySlot
  split
  · exact h
  · exact h.withSlots.applyOutcome

theorem haltAll {e} (h : s.HasFlags F) : (s.haltAll e).HasFlags F :=
  h.endJob.emptySlot.emptySlot.emptySlot.withPreempt

/-! ## Searches -/

theorem placeProbe {c r} (h : s.HasFlags F) : (s.placeProbe c r).HasFlags F := by
  unfold State.placeProbe
  split
  · exact h.withJob.requestMove
  · exact h.withJob
  · exact h.withJob.finishJob

theorem nextProbe {c} (h : s.HasFlags F) : (s.nextProbe c).HasFlags F := by
  unfold State.nextProbe
  split
  · exact h
  · exact h.placeProbe

theorem enterSearch {c d} (h : s.HasFlags F) : (s.enterSearch c d).HasFlags F := h.placeProbe

/-! ## The Pointing Arbiter -/

theorem markDeferrals (h : s.HasFlags F) : s.markDeferrals.HasFlags F := h
theorem wakeOrSlew {c} (h : s.HasFlags F) : (s.wakeOrSlew c).HasFlags F := h.withJob.requestMove

theorem activate {t} (h : s.HasFlags F) : (s.activate t).HasFlags F := by
  unfold State.activate
  split
  · exact h
  · exact h.modify

theorem startEntry {e} (h : s.HasFlags F) : (s.startEntry e).HasFlags F := by
  unfold State.startEntry
  split
  · exact h.withDue
  · exact h.withDue.activate.sensorSwitchOn.withDrive.wakeOrSlew

theorem resumeSearch {c} (h : s.HasFlags F) : (s.resumeSearch c).HasFlags F := by
  unfold State.resumeSearch
  split
  · exact h
  · exact ite h.finishJob h.placeProbe

theorem resumeJob {c} (h : s.HasFlags F) : (s.resumeJob c).HasFlags F :=
  ite h.withJob.activate.sensorSwitchOn.withDrive.resumeSearch
    (ite h.withJob.activate.finishJob h.withJob.activate.sensorSwitchOn.withDrive.wakeOrSlew)

theorem resumeSlot {k} (h : s.HasFlags F) : (s.resumeSlot k).HasFlags F := by
  unfold State.resumeSlot
  split
  · exact h
  · exact h.withSlots.resumeJob

theorem idle (h : s.HasFlags F) : s.idle.HasFlags F := h.sensorSwitchOff

theorem decideWithin (fuel : Nat) (h : s.HasFlags F) : (State.decideWithin fuel s).HasFlags F := by
  induction fuel generalizing s with
  | zero => exact h.idle
  | succ fuel ih =>
    refine ite h.idle ?_
    dsimp only
    split
    · exact h.markDeferrals.idle
    · exact h.markDeferrals.startEntry
    · exact ite (ih h.markDeferrals.resumeSlot) h.markDeferrals.resumeSlot

theorem startDecision (h : s.HasFlags F) : s.startDecision.HasFlags F := h.decideWithin 4
theorem decideIfIdle (h : s.HasFlags F) : s.decideIfIdle.HasFlags F := ite h.startDecision h

theorem deactivate {t} (h : s.HasFlags F) : (s.deactivate t).HasFlags F := by
  unfold State.deactivate
  split
  · exact h
  · exact h.modify

theorem suspendJob {c} (h : s.HasFlags F) : (s.suspendJob c).HasFlags F :=
  h.steeringEnds.withJob.withSlots.deactivate.startDecision

theorem giveWay {c} (h : s.HasFlags F) : (s.giveWay c).HasFlags F := by
  unfold State.giveWay
  split
  · exact h.withPreempt
  · exact h.finishJob.startDecision
  all_goals exact h.suspendJob

theorem preemptionTest (h : s.HasFlags F) : s.preemptionTest.HasFlags F := by
  unfold State.preemptionTest
  split
  · exact h
  · exact ite h (ite h.giveWay h)

theorem arbitrate (h : s.HasFlags F) : s.arbitrate.HasFlags F := ite h.startDecision h.preemptionTest

theorem takeUpMark (h : s.HasFlags F) : s.takeUpMark.HasFlags F := by
  unfold State.takeUpMark
  split
  · exact h
  · exact ite h.withPreempt.preemptionTest h

/-! ## Tracks -/

theorem steer {c d} (h : s.HasFlags F) : (s.steer c d).HasFlags F := h.moveBoth

theorem enterTrack {c d q} (h : s.HasFlags F) : (s.enterTrack c d q).HasFlags F := by
  unfold State.enterTrack
  split
  · exact h
  · exact h.modify.setNewsIf.withJob.steeringBegins.steer

theorem coastExpires {c} (h : s.HasFlags F) : (s.coastExpires c).HasFlags F := h.steeringEnds.enterSearch

theorem enterCoast {c} (h : s.HasFlags F) : (s.enterCoast c).HasFlags F := by
  unfold State.enterCoast
  split
  · exact h
  · exact ite h.setNewsIf.withJob.steer.coastExpires h.setNewsIf.withJob.steer

theorem runReached {c} (h : s.HasFlags F) : (s.runReached c).HasFlags F := by
  unfold State.runReached
  split
  · exact h.withJob
  · exact ite h.enterTrack h.withJob

theorem coastVerdict {c v} (h : s.HasFlags F) : (s.coastVerdict c v).HasFlags F := by
  cases v with
  | matched d q => exact h.runReached
  | empty => exact h.withJob
  | ambiguous => exact h.withJob

theorem coastFrame {c v} (h : s.HasFlags F) : (s.coastFrame c v).HasFlags F := h.steer.coastVerdict

theorem trackMatched {c d q} (h : s.HasFlags F) : (s.trackMatched c d q).HasFlags F := by
  unfold State.trackMatched
  split
  · exact h
  · exact h.modify.withJob.steer

theorem trackMissed {c} (h : s.HasFlags F) : (s.trackMissed c).HasFlags F := ite h.enterCoast h.withJob

theorem trackVerdict {c v} (h : s.HasFlags F) : (s.trackVerdict c v).HasFlags F := by
  cases v with
  | matched d q => exact h.trackMatched
  | empty => exact h.trackMissed
  | ambiguous => exact h.trackMissed

theorem coastOnFrame {c v} (h : s.HasFlags F) : (s.coastOnFrame c v).HasFlags F := ite h.enterCoast h.enterCoast.coastFrame

theorem trackFrame {c v} (h : s.HasFlags F) : (s.trackFrame c v).HasFlags F :=
  ite (ite h.trackVerdict h.coastOnFrame) h.trackVerdict

/-! ## Visits and frames -/

theorem visitFound {c f} (h : s.HasFlags F) : (s.visitFound c f).HasFlags F := ite h.withJob.finishJob h.withJob
theorem foreignFound {c d} (h : s.HasFlags F) : (s.foreignFound c d).HasFlags F := h.nextProbe

theorem evaluate {c d q} (h : s.HasFlags F) : (s.evaluate c d q).HasFlags F := by
  unfold State.evaluate
  split
  · exact h.enterTrack
  · exact ite h.visitFound h.foreignFound
  · exact h

theorem confirmReached {c} (h : s.HasFlags F) : (s.confirmReached c).HasFlags F := by
  unfold State.confirmReached
  split
  · exact h.withJob
  · exact ite h.evaluate h.withJob

theorem enterConfirm {c o d q} (h : s.HasFlags F) : (s.enterConfirm c o d q).HasFlags F := h.confirmReached

theorem lookTest {c} (h : s.HasFlags F) : (s.lookTest c).HasFlags F :=
  ite h.withJob.finishJob (ite h.enterSearch h.withJob)

theorem lookVerdict {c v} (h : s.HasFlags F) : (s.lookVerdict c v).HasFlags F := by
  cases v with
  | matched d q => exact h.enterConfirm
  | empty => exact h.lookTest
  | ambiguous => exact h.lookTest

theorem probeCounted {c st} (h : s.HasFlags F) : (s.probeCounted c st).HasFlags F := ite h.nextProbe h.withJob

theorem probeVerdict {c v} (h : s.HasFlags F) : (s.probeVerdict c v).HasFlags F := by
  unfold State.probeVerdict
  split
  · exact h
  · cases v with
    | matched d q => exact h.enterConfirm
    | empty => exact h.probeCounted
    | ambiguous => exact ite h.withJob.finishJob h.probeCounted

theorem searchBroken {c} (h : s.HasFlags F) : (s.searchBroken c).HasFlags F := ite h.withJob.finishJob h.nextProbe

theorem confirmVerdict {c v} (h : s.HasFlags F) : (s.confirmVerdict c v).HasFlags F := by
  cases v with
  | matched d q => exact h.confirmReached
  | empty | ambiguous =>
    dsimp only [State.confirmVerdict]
    split
    · exact h.searchBroken
    · exact h.lookVerdict
    · exact h.lookVerdict

theorem actOnVerdict {c v} (h : s.HasFlags F) : (s.actOnVerdict c v).HasFlags F := by
  unfold State.actOnVerdict
  split
  · exact h.lookVerdict
  · exact h.confirmVerdict
  · exact h.probeVerdict
  · exact h.trackFrame
  · exact h.coastFrame
  all_goals exact h

theorem followUp (h : s.HasFlags F) : s.followUp.HasFlags F := (ite h.startDecision h.takeUpMark).settleDoze

theorem frameArrives {f} (h : s.HasFlags F) : (s.frameArrives f).HasFlags F := by
  have numbered : ({ s with lastFrame := some f.number } : State).HasFlags F := h
  unfold State.frameArrives
  split
  · exact h
  · exact ite h (ite numbered.actOnVerdict.followUp h)

/-! ## Drives -/

theorem wakeEnds (h : s.HasFlags F) : s.wakeEnds.HasFlags F := by
  unfold State.wakeEnds
  split
  · exact h.parkIfPending
  · split
    · exact h.withJob.requestMove
    · exact ite h.requestMove h
    · exact h

theorem arrived (h : s.HasFlags F) : s.arrived.HasFlags F := by
  unfold State.arrived
  split
  · exact h
  · split
    · exact h.withJob
    · exact h.withJob
    · exact h.withJob
    · exact ite (ite h.finishJob.startDecision h.withJob) h
    · exact h

theorem slewEnds {p} (h : s.HasFlags F) : (s.slewEnds p).HasFlags F := by
  cases p with
  | job => exact h.withDrive.arrived.parkIfPending
  | park => exact h.restDrive
  | none => exact h.withDrive.parkIfPending

theorem driveFaults {c a} (h : s.HasFlags F) : (s.driveFaults c a).HasFlags F :=
  h.sendAxis.withDrive.withFlags.haltAll.returnAfter.testReorient.startDecision.settleDoze

theorem faultReported {c a} (h : s.HasFlags F) : (s.faultReported c a).HasFlags F :=
  ite h.withDrive.withFlags h.driveFaults

theorem resetDrive (h : s.HasFlags F) : s.resetDrive.HasFlags F := h.withDrive.sendAxis.startDecision.settleDoze

/-! ## Level and orientation -/

theorem makeReorient {id} (h : s.HasFlags F) : (s.makeReorient id).HasFlags F := by
  unfold State.makeReorient
  split
  · exact h
  · split
    · exact h.becomeDue
    · exact h.becomeDue
    · exact h.moveEntry
    all_goals exact h

theorem startReorientation (h : s.HasFlags F) : s.startReorientation.HasFlags F :=
  (h.enterOrient.foldl makeReorient _).withOrient

theorem disturb (h : s.HasFlags F) : s.disturb.HasFlags F :=
  h.enterOrient.haltAll.stopRequest.returnReorient.withOrient.withFlags.startDecision.settleDoze

theorem settleStation (h : s.HasFlags F) : s.settleStation.HasFlags F :=
  ite h.startReorientation.arbitrate.settleDoze h.enterOrient.withFlags.arbitrate.settleDoze

theorem sampleDisturbed {b} (h : s.HasFlags F) : (s.sampleDisturbed b).HasFlags F :=
  ite h.withOrient (ite h.settleStation h.withOrient)

theorem sampleSteady {b} (h : s.HasFlags F) : (s.sampleSteady b).HasFlags F :=
  ite (ite h.disturb h.withOrient) h.withOrient

theorem enterOrientedWith {x} (h : s.HasFlags F) : (s.enterOrientedWith x).HasFlags F :=
  have entriesBack : (if s.orient.state = .reorienting then s.returnReorient.leaveBehind else s).HasFlags F :=
    ite h.returnReorient.leaveBehind h
  (ite entriesBack entriesBack.enterOrient).withOrient

theorem setOrientation {x} (h : s.HasFlags F) : (s.setOrientation x).HasFlags F :=
  ite h.enterOrientedWith h.enterOrientedWith.arbitrate.settleDoze

/-! ## Target records -/

theorem addRecord {r} (h : s.HasFlags F) : (s.addRecord r).HasFlags F := h.withRecords.becomeDue.arbitrate.settleDoze

theorem relevelEntry {id l} (h : s.HasFlags F) : (s.relevelEntry id l).HasFlags F := by
  unfold State.relevelEntry
  split
  · exact ite h.moveEntry h
  · exact h

theorem dropSuspended {id e} (h : s.HasFlags F) : (s.dropSuspended id e).HasFlags F := by
  unfold State.dropSuspended
  split
  · exact h
  · exact h.withSlots.applyOutcome

theorem supersede {id} (h : s.HasFlags F) : (s.supersede id).HasFlags F := ite h.finishJob h.dropSuspended

theorem changeRecord {id absent f} (h : s.HasFlags F) : (s.changeRecord id absent f).HasFlags F :=
  have work : (if f.expected.isSome then
      ((s.modify id (TargetFields.writeTo f absent)).relevelEntry id f.level).supersede id
      else (s.modify id (TargetFields.writeTo f absent)).relevelEntry id f.level).HasFlags F :=
    ite h.modify.relevelEntry.supersede h.modify.relevelEntry
  ite work.arbitrate.settleDoze work

theorem afterReorientWork {b} (h : s.HasFlags F) : (s.afterReorientWork b).HasFlags F :=
  ite (ite h.returnAfter.testReorient h.returnAfter.testReorient.arbitrate) h

theorem removeRecord {id} (h : s.HasFlags F) : (s.removeRecord id).HasFlags F := h

theorem retireRecord {id} (h : s.HasFlags F) : (s.retireRecord id).HasFlags F :=
  have removed : ((if s.jobIsFor id then s.endJob .retired else s).removeRecord id).HasFlags F :=
    (ite h.endJob h).removeRecord
  ite (ite removed.returnAfter.testReorient removed).startDecision.settleDoze removed.afterReorientWork.settleDoze

theorem holdIdle {id} (h : s.HasFlags F) : (s.holdIdle id).HasFlags F := h

theorem holdRecord {id st} (h : s.HasFlags F) : (s.holdRecord id st).HasFlags F := by
  cases st with
  | active => exact h.finishJob.startDecision.settleDoze
  | suspended => exact h.dropSuspended
  | due => exact h.holdIdle.afterReorientWork.settleDoze
  | waiting => exact h.holdIdle
  | lost => exact h.holdIdle
  | held => exact h

theorem visitDue {id l given} (h : s.HasFlags F) : (s.visitDue id l given).HasFlags F := by
  unfold State.visitDue
  split
  · exact h
  · exact ite h.moveEntry.arbitrate.settleDoze h.moveEntry

theorem setOverdue {id} (h : s.HasFlags F) : (s.setOverdue id).HasFlags F := h.modify.setNews.withFlags
theorem dropDeferTimer {id} (h : s.HasFlags F) : (s.dropDeferTimer id).HasFlags F := h

/-! ## Zones -/

theorem wakeWaitingSearch (h : s.HasFlags F) : s.wakeWaitingSearch.HasFlags F := by
  unfold State.wakeWaitingSearch
  split
  · exact h
  · split
    · exact ite h.placeProbe h
    · exact h

theorem shadowJob (h : s.HasFlags F) : s.shadowJob.HasFlags F := h.finishJob.startDecision

theorem testAgainstZone {z} (h : s.HasFlags F) : (s.testAgainstZone z).HasFlags F := by
  unfold State.testAgainstZone
  split
  · exact h
  · split
    · exact h
    · exact ite h.shadowJob h
    · exact ite h.shadowJob h
    · exact ite h.shadowJob h
    · exact ite h.shadowJob h
    · exact h
    · exact h
    · exact h
    · exact ite h.enterCoast.decideIfIdle h
    · exact h
    · exact h

theorem testShadowMark (h : s.HasFlags F) : s.testShadowMark.HasFlags F := by
  unfold State.testShadowMark
  split
  · exact h
  · exact ite h.withJob h

theorem zoneGone (h : s.HasFlags F) : s.zoneGone.HasFlags F := h.wakeWaitingSearch.arbitrate.settleDoze
theorem placeZone {z} (h : s.HasFlags F) : (s.placeZone z).HasFlags F := h.withZones

theorem setZone {z} (h : s.HasFlags F) : (s.setZone z).HasFlags F := by
  have woken : (if (s.findZone z.id).isSome then (s.placeZone z).wakeWaitingSearch else s.placeZone z).HasFlags F :=
    ite h.placeZone.wakeWaitingSearch h.placeZone
  unfold State.setZone
  cases z.kind with
  | shadow =>
    have tested := (woken.testAgainstZone (z := z)).testShadowMark
    exact (ite tested.arbitrate tested).settleDoze
  | glare => exact (ite woken.arbitrate woken).settleDoze

theorem removeZone {id} (h : s.HasFlags F) : (s.removeZone id).HasFlags F := h.withZones.zoneGone

/-! ## POINT, RELEASE and the station mode -/

theorem replacePoint (h : s.HasFlags F) : s.replacePoint.HasFlags F := (ite h.endJob h).withDue.withSlots

theorem joinPoint {d l t} (h : s.HasFlags F) : (s.joinPoint d l t).HasFlags F := h.withDue.arbitrate.settleDoze

theorem endDwell (h : s.HasFlags F) : s.endDwell.HasFlags F := h.finishJob.startDecision.settleDoze

theorem park (h : s.HasFlags F) : s.park.HasFlags F := by
  unfold State.park
  split
  · exact h
  · exact h
  · exact h.withDrive
  · exact h.withDrive
  · exact h.withDrive.parkIfPending
  · exact h.withDrive

theorem enterParked (h : s.HasFlags F) : s.enterParked.HasFlags F :=
  have parked : ({ s with mode := .parked } : State).HasFlags F := h
  parked.haltAll.returnAfter.testReorient.sensorSwitchOff.park.startDecision.settleDoze

theorem enterWorking {m} (h : s.HasFlags F) : (s.enterWorking m).HasFlags F :=
  have working : ({ s with mode := m } : State).HasFlags F := h
  working.withDrive.arbitrate.settleDoze

theorem selectMode {m} (h : s.HasFlags F) : (s.selectMode m).HasFlags F := by
  refine ite h ?_
  cases m with
  | parked => exact h.enterParked
  | active => exact h.enterWorking
  | doze => exact h.enterWorking

/-! ## Timers -/

theorem searchLimitExpires {c st} (h : s.HasFlags F) : (s.searchLimitExpires c st).HasFlags F := by
  unfold State.searchLimitExpires
  split
  · exact h.withJob
  · exact h.finishJob.startDecision.settleDoze
  · exact h.finishJob.startDecision.settleDoze

theorem quantumExpires {c} (h : s.HasFlags F) : (s.quantumExpires c).HasFlags F :=
  ite h.finishJob.startDecision.settleDoze h.withJob

end State.HasFlags

end Sys2Proof.Machine
end

section
/-!
PROOFS. No command but ATTENTION CLEAR, CLEAR STATION, POWER_ON and a WRITE clears an attention flag (spec 11, R191): the
owners of the requests, then the reports and the expiries, then every command.
-/

namespace Sys2Proof.Machine

variable {s : State} {F : Attention} {tag : Byte}

namespace State.HasFlags

/-! ## The owners of the requests -/

/-- What an owner answers keeps the flags that the port's state had. -/
theorem takeRequest {act : State → Answer} (h : s.HasFlags F) (hact : (act s).1.HasFlags F) :
    (s.takeRequest tag act).HasFlags F := ite h hact

theorem onRecord {id} {act : TargetRecord → Answer} (h : s.HasFlags F) (hact : ∀ r, (act r).1.HasFlags F) :
    (s.onRecord id act).1.HasFlags F := by
  unfold State.onRecord
  split
  · split
    · exact h
    · exact hact _
  · exact h

theorem onZone {id} {act : Zone → Answer} (h : s.HasFlags F) (hact : ∀ z, (act z).1.HasFlags F) :
    (s.onZone id act).1.HasFlags F := by
  unfold State.onZone
  split
  · split
    · exact h
    · exact hact _
  · exact h

/-- A choice between two answers that both keep the flags. -/
theorem iteAnswer {p : Prop} [Decidable p] {a b : Answer} (ha : a.1.HasFlags F) (hb : b.1.HasFlags F) :
    (if p then a else b).1.HasFlags F := by
  split
  · exact ha
  · exact hb

theorem reqConfigure {pairs} (h : s.HasFlags F) : (reqConfigure pairs s).1.HasFlags F := iteAnswer h h

theorem reqTargetAdd {id cls f} (h : s.HasFlags F) : (reqTargetAdd id cls f s).1.HasFlags F := by
  refine iteAnswer h ?_
  split
  · exact h
  · refine iteAnswer h ?_
    split
    · exact h
    · exact h.addRecord

theorem reqTargetChange {id cls absent f} (h : s.HasFlags F) : (reqTargetChange id cls absent f s).1.HasFlags F := by
  refine iteAnswer h ?_
  split
  · exact h
  · exact iteAnswer h.changeRecord h

theorem reqTargetRead {id} (h : s.HasFlags F) : (reqTargetRead id s).1.HasFlags F := h.onRecord fun _ => h

theorem reqTargetRetire {id} (h : s.HasFlags F) : (reqTargetRetire id s).1.HasFlags F := h.onRecord fun _ => h.retireRecord

theorem reqTargetHold {id} (h : s.HasFlags F) : (reqTargetHold id s).1.HasFlags F := h.onRecord fun _ => h.holdRecord

theorem reqTargetResume {id} (h : s.HasFlags F) : (reqTargetResume id s).1.HasFlags F :=
  h.onRecord fun _ => iteAnswer h.becomeDue.arbitrate.settleDoze h

theorem reqClearFlags {id b} (h : s.HasFlags F) : (reqClearFlags id b s).1.HasFlags F :=
  iteAnswer h (h.onRecord fun _ => h.modify)

theorem reqChangedList (h : s.HasFlags F) : (reqChangedList s).1.HasFlags F := h.withRecords

theorem visitRecord {r l} (h : s.HasFlags F) : (s.visitRecord r l).1.HasFlags F := by
  unfold State.visitRecord
  dsimp only
  split
  · exact h.becomeDue.arbitrate.settleDoze
  · exact h.becomeDue.arbitrate.settleDoze
  · exact iteAnswer h h.visitDue
  all_goals exact h

theorem reqVisitNow {id l} (h : s.HasFlags F) : (reqVisitNow id l s).1.HasFlags F :=
  iteAnswer (h.onRecord fun _ => h.visitRecord) h

theorem reqZoneSet {f} (h : s.HasFlags F) : (reqZoneSet f s).1.HasFlags F := by
  unfold Machine.reqZoneSet
  split
  · exact h
  · exact iteAnswer h h.setZone

theorem reqZoneRetire {id} (h : s.HasFlags F) : (reqZoneRetire id s).1.HasFlags F := h.onZone fun _ => h.removeZone

theorem reqZoneRead {id} (h : s.HasFlags F) : (reqZoneRead id s).1.HasFlags F := h.onZone fun _ => h

theorem reqPatternLoad {n f} (h : s.HasFlags F) : (reqPatternLoad n f s).1.HasFlags F := by
  refine iteAnswer ?_ h
  split
  · exact h
  · exact iteAnswer h h

theorem reqPatternRead {n} (h : s.HasFlags F) : (reqPatternRead n s).1.HasFlags F := iteAnswer h h

theorem reqPoint {d l t} (h : s.HasFlags F) : (reqPoint d l t s).1.HasFlags F := iteAnswer h.replacePoint.joinPoint h

theorem releaseVisit {id} (h : s.HasFlags F) : (s.releaseVisit id).1.HasFlags F := iteAnswer h.endDwell h

theorem releasePoint (h : s.HasFlags F) : s.releasePoint.1.HasFlags F :=
  iteAnswer h.finishJob.startDecision.settleDoze (iteAnswer h.withDue (iteAnswer h.withSlots h))

theorem reqRelease {id} (h : s.HasFlags F) : (reqRelease id s).1.HasFlags F := by
  cases id with
  | none => exact h.releasePoint
  | some id => exact iteAnswer h.releaseVisit h

theorem reqStationMode {m} (h : s.HasFlags F) : (reqStationMode m s).1.HasFlags F := by
  unfold Machine.reqStationMode
  split
  · exact h
  · exact h.selectMode

theorem reqReorient (h : s.HasFlags F) : (reqReorient s).1.HasFlags F :=
  iteAnswer h.startReorientation.arbitrate.settleDoze h

theorem reqOrientSet {x} (h : s.HasFlags F) : (reqOrientSet x s).1.HasFlags F :=
  iteAnswer (iteAnswer h h.setOrientation) h

theorem reqDriveReset (h : s.HasFlags F) : (reqDriveReset s).1.HasFlags F := iteAnswer h.resetDrive h

/-! ## Transactions and power -/

theorem publish (h : s.HasFlags F) : s.publish.HasFlags F := by
  unfold State.publish
  split <;> exact h

theorem readTransaction {n} (h : s.HasFlags F) : (s.readTransaction n).HasFlags F := h

end State.HasFlags

/-! ## Reports and expiries -/

/-- The outcome is a next state in which every flag of F is set. -/
def KeepsFlags (F : Attention) (o : Host.Outcome State Fault Refusal) : Prop := ∃ t, o = .next t ∧ t.HasFlags F

/-- An event that answers a next state with the flags kept. -/
theorem State.HasFlags.next (h : s.HasFlags F) : KeepsFlags F (.next s) := ⟨s, rfl, h⟩

/-- A choice between two outcomes that both keep the flags. -/
theorem KeepsFlags.ite {p : Prop} [Decidable p] {a b : Host.Outcome State Fault Refusal} (ha : KeepsFlags F a)
    (hb : KeepsFlags F b) : KeepsFlags F (if p then a else b) := by
  split
  · exact ha
  · exact hb

theorem keepsFlags_readyReport {axis} (h : s.HasFlags F) : KeepsFlags F (execReadyReport axis s) :=
  .ite (.ite h.withDrive.wakeEnds.settleDoze.next h.withDrive.next) h.next

theorem keepsFlags_atPosition {axis p m} (h : s.HasFlags F) : KeepsFlags F (execAtPosition axis p m s) :=
  .ite (.ite h.withDrive.next h.withDrive.slewEnds.settleDoze.next) h.next

theorem keepsFlags_sensorFrame {bytes} (h : s.HasFlags F) : KeepsFlags F (execSensorFrame bytes s) := by
  unfold execSensorFrame
  split
  · exact h.next
  · exact h.frameArrives.next

theorem keepsFlags_tiltSample {cross long} (h : s.HasFlags F) : KeepsFlags F (execTiltSample cross long s) :=
  (State.HasFlags.ite h.sampleDisturbed h.sampleSteady).next

theorem keepsFlags_countdownExpiry {id} (h : s.HasFlags F) : KeepsFlags F (execCountdownExpiry id s) := by
  unfold execCountdownExpiry
  split
  · exact h.next
  · exact .ite h.becomeDue.arbitrate.settleDoze.next h.next

theorem keepsFlags_deferralTimerExpiry {id} (h : s.HasFlags F) : KeepsFlags F (execDeferralTimerExpiry id s) :=
  .ite h.dropDeferTimer.setOverdue.next h.next

theorem keepsFlags_zoneLifetimeExpiry {id} (h : s.HasFlags F) : KeepsFlags F (execZoneLifetimeExpiry id s) :=
  .ite h.withFlags.removeZone.next h.next

theorem keepsFlags_dwellTimerExpiry (h : s.HasFlags F) : KeepsFlags F (execDwellTimerExpiry s) := .ite h.endDwell.next h.next

theorem keepsFlags_holdTimerExpiry (h : s.HasFlags F) : KeepsFlags F (execHoldTimerExpiry s) :=
  .ite h.finishJob.startDecision.settleDoze.next h.next

theorem keepsFlags_searchLimitExpiry (h : s.HasFlags F) : KeepsFlags F (execSearchLimitExpiry s) := by
  unfold execSearchLimitExpiry
  split
  · exact h.next
  · split
    · exact h.next
    · exact .ite h.searchLimitExpires.next h.next

theorem keepsFlags_coastTimerExpiry (h : s.HasFlags F) : KeepsFlags F (execCoastTimerExpiry s) := by
  unfold execCoastTimerExpiry
  split
  · exact h.next
  · exact .ite h.coastExpires.followUp.next h.next

theorem keepsFlags_quantumExpiry (h : s.HasFlags F) : KeepsFlags F (execQuantumExpiry s) := by
  unfold execQuantumExpiry
  split
  · exact h.next
  · exact .ite h.quantumExpires.next h.next

/-! ## Every command -/

/-- Every command but the four keeps the flags that are set; a request by what its owner does, for the port has no flags. -/
theorem keepsFlags_exec (c : Instr) (h : s.HasFlags F) (hclear : ∀ tag flags, c ≠ .attentionClear tag flags)
    (hstation : ∀ tag, c ≠ .clearStation tag) (hpower : c ≠ .powerOn) (hwrite : ∀ f cut p, c ≠ .write f cut p) :
    KeepsFlags F (exec c s) := by
  cases c with
  | powerOn => exact absurd rfl hpower
  | write frame cut published => exact absurd rfl (hwrite frame cut published)
  | attentionClear tag flags => exact absurd rfl (hclear tag flags)
  | clearStation tag => exact absurd rfl (hstation tag)
  | read => exact h.readTransaction.next
  | replyPublish => exact h.publish.next
  | identify | readConfiguration | status | targetList | clockRead | clockSet | attentionRead | attentionMask =>
    exact (h.takeRequest h).next
  | configure => exact (h.takeRequest h.reqConfigure).next
  | targetAdd => exact (h.takeRequest h.reqTargetAdd).next
  | targetChange => exact (h.takeRequest h.reqTargetChange).next
  | targetRead => exact (h.takeRequest h.reqTargetRead).next
  | targetRetire => exact (h.takeRequest h.reqTargetRetire).next
  | targetHold => exact (h.takeRequest h.reqTargetHold).next
  | targetResume => exact (h.takeRequest h.reqTargetResume).next
  | clearFlags => exact (h.takeRequest h.reqClearFlags).next
  | changedList => exact (h.takeRequest h.reqChangedList).next
  | visitNow => exact (h.takeRequest h.reqVisitNow).next
  | zoneSet => exact (h.takeRequest h.reqZoneSet).next
  | zoneRetire => exact (h.takeRequest h.reqZoneRetire).next
  | zoneRead => exact (h.takeRequest h.reqZoneRead).next
  | patternLoad => exact (h.takeRequest h.reqPatternLoad).next
  | patternRead => exact (h.takeRequest h.reqPatternRead).next
  | point => exact (h.takeRequest h.reqPoint).next
  | release => exact (h.takeRequest h.reqRelease).next
  | stationMode => exact (h.takeRequest h.reqStationMode).next
  | reorient => exact (h.takeRequest h.reqReorient).next
  | orientSet => exact (h.takeRequest h.reqOrientSet).next
  | driveReset => exact (h.takeRequest h.reqDriveReset).next
  | readyReport => exact keepsFlags_readyReport h
  | atPosition axis position move => exact keepsFlags_atPosition (p := position) h
  | stalled => exact h.faultReported.next
  | fault => exact h.faultReported.next
  | sensorFrame => exact keepsFlags_sensorFrame h
  | tiltSample => exact keepsFlags_tiltSample h
  | countdownExpiry => exact keepsFlags_countdownExpiry h
  | deferralTimerExpiry => exact keepsFlags_deferralTimerExpiry h
  | zoneLifetimeExpiry => exact keepsFlags_zoneLifetimeExpiry h
  | dwellTimerExpiry => exact keepsFlags_dwellTimerExpiry h
  | holdTimerExpiry => exact keepsFlags_holdTimerExpiry h
  | searchLimitExpiry => exact keepsFlags_searchLimitExpiry h
  | coastTimerExpiry => exact keepsFlags_coastTimerExpiry h
  | quantumExpiry => exact keepsFlags_quantumExpiry h
  | wakeLimitExpiry => exact (State.HasFlags.ite h.driveFaults h).next
  | moveLimitExpiry => exact (State.HasFlags.ite h.driveFaults h).next
  | dozeDelayExpiry => exact (State.HasFlags.ite h.restDrive h).next

/-- Settles O14: the three requests are their owners' acts, and every flag of a state is kept by the other commands. -/
theorem attentionFlagsAndMask : Obligations.AttentionFlagsAndMask := by
  refine ⟨fun tag b s hp => ?requests, fun c s t hexec hclear hstation hpower hwrite => ?kept⟩
  case requests =>
    exact ⟨exec_attentionRead hp, ofByte_toByte, exec_attentionClear hp, exec_attentionMask hp, attn_eq s⟩
  case kept =>
    obtain ⟨u, hu, hkept⟩ := keepsFlags_exec c s.hasFlags_flags hclear hstation hpower hwrite
    obtain rfl : u = t := Host.Outcome.next.inj (hu.symm.trans hexec)
    exact hkept

end Sys2Proof.Machine
end
